-- ==== Sys2Proof/Config.lean ====
section
/-! DEFINITION. The fixed parameters of the block (00_scope.md R8), the host parameters of the exchange
protocol (00_scope.md R9), and the one free value: the draw of the buffers' bytes at reset. -/

namespace Sys2Proof.Config

/-- `CRC_POLY`, the reflected polynomial, applied after a right shift (R8, 40_crc.md R110). -/
def crcPoly : Half := 0xA001

/-- `CRC_INIT` (R8, 40_crc.md R111). -/
def crcInit : Half := 0xFFFF

/-- `RX_MAX`, the size of `RXBUF` in bytes (R8, 10_state.md R42). -/
def rxMax : Nat := 1024

/-- `DATABUF_SIZE` (R8, 10_state.md R40). -/
def dataBufSize : Nat := 256

/-- `TX_MAX`, the size of `TXBUF` in bytes: 9 plus the largest byte count (R8, 10_state.md R41). -/
def txMax : Nat := 264

/-- `MIN_RESP`, the least candidate length whose CRC is checked (R8, 42_parser.md R154). -/
def minResp : Nat := 4

/-- `WINDOW`, the byte offsets of the host-bus window (R8, 20_memory.md R60). -/
def window : Nat := 0x800

/-- What a byte of a buffer holds after the `n`-th reset, at window offset `off`, until it is written:
any value, independently for each byte and each reset (10_state.md R45, U3). A FREE VALUE: it has no body,
so nothing can be proved of it and a claim holds whatever it is (log entry 3). -/
opaque resetDraw : Nat → Nat → Byte

/-- The constants of the host's retry loop (00_scope.md R9, D33). -/
structure HostParams where
  /-- `MAX_ATTEMPTS`. -/
  maxAttempts : Nat
  /-- `BACKOFF`, in milliseconds. -/
  backoffMs : Nat
deriving DecidableEq, Repr

/-- The defaults of R8: 10 attempts, 0.5 s. -/
def hostDefaults : HostParams := { maxAttempts := 10, backoffMs := 500 }

end Sys2Proof.Config
end

