-- ==== Sys2Proof/Machine/State.lean ====
section
/-! DEFINITION. The state of the block, as plain data: every register field of 10_state.md section 2, the three
buffers, and the model's own three fields (the reset counter, the events still to come, the host's read latch).
Reset is 10_state.md R45. -/

namespace Sys2Proof.Machine

/-- The result of the last command, `STATUS.CODE`: exactly the nine values of 60_exceptions.md R181 (U6). -/
inductive StatusCode
  | none
  | ok
  | noResponse
  | shortFrame
  | crcError
  | bcntError
  | paramError
  | seqError
  | illegalOp
deriving DecidableEq, Repr

/-- What reaches the block from outside: a host-bus access (20_memory.md R61, R62), of any offset and width so
that the undefined ones can be refused (R64, R65), or the platform's reset (70_reset_and_hazards.md R210). -/
inductive HostEvent
  /-- `MemRead(off, width)`. -/
  | read (off width : Nat)
  /-- `MemWrite(off, width, w)`; the data of any width is carried as a word (log entry 15). -/
  | write (off width : Nat) (w : Word)
  /-- The platform asserts reset. -/
  | reset
deriving DecidableEq, Repr

/-- The bytes of the three buffers, keyed by window offset: `DATABUF[i]` at 0x100 + i, `TXBUF[i]` at 0x200 + i,
`RXBUF[i]` at 0x400 + i. Only the bytes written since reset are listed, offsets strictly rising; an unlisted
offset holds no value of its own and reads as the reset draw (log entry 4). -/
abbrev Memory := List Host.Cell

structure State where
  /-- `SLAVE.ADDR` (R24). -/
  slave : Byte
  /-- `START_REG.REG` (R25). -/
  startReg : Half
  /-- `COUNT.COUNT` (R26). -/
  count : Half
  /-- `BYTE_COUNT.BC` (R27). -/
  byteCount : Byte
  /-- `DATA_LEN.LEN` (R28). -/
  dataLen : BitVec 9
  /-- `CRC.CRC`, the running `crc` (R29). -/
  crc : Half
  /-- `STATUS.CODE` (R23). -/
  code : StatusCode
  /-- `STATUS.NUL_SKIPPED` (R23). -/
  nulSkipped : Bool
  /-- `STATUS.ECHO_SHORT` (R23). -/
  echoShort : Bool
  /-- `frame_valid`, read as `STATUS.FRAME_VALID` (R23, R43). -/
  frameValid : Bool
  /-- `tx_len`, read as `TX_LEN.LEN` (R30). -/
  txLen : BitVec 9
  /-- `frame_fc`, read as `FRAME_FC.FC` (R31). -/
  frameFc : Byte
  /-- `RX_LEN.LEN` (R32). -/
  rxLen : BitVec 11
  /-- `RESP_OFF.OFF` (R33). -/
  respOff : BitVec 11
  /-- `RESP_LEN.LEN` (R34). -/
  respLen : BitVec 11
  /-- `PAYLOAD_OFF.OFF` (R35). -/
  payloadOff : BitVec 11
  /-- `PAYLOAD_LEN.LEN` (R36). -/
  payloadLen : Byte
  /-- `RX_CRC.RECEIVED` (R37). -/
  rxReceived : Half
  /-- `RX_CRC.COMPUTED` (R37). -/
  rxComputed : Half
  /-- `DATABUF`, `TXBUF` and `RXBUF` (R40 to R42). -/
  mem : Memory
  /-- The model's own: how many resets there have been, the index of the current reset draw (log entry 3). -/
  resets : Nat
  /-- The model's own: the events still to come, the next one first (log entry 1). -/
  pending : List HostEvent
  /-- The model's own: what the host's last `MemRead` returned, if it has made one (log entry 2). -/
  readData : Option Word
deriving DecidableEq, Repr

/-- Why the machine stops with a fault. There is no reason: "No behaviour of the block is fault or stuck"
(93_implementation_defined.md; 60_exceptions.md R180, R186), so no meaning and no step can raise one. Safe: an
empty type leaves out no behaviour the spec gives (log entry 12). -/
inductive Fault
deriving DecidableEq, Repr

/-- Why a step has no meaning. -/
inductive Refusal
  /-- Raised by an arm of `exec` whose instruction has no meaning yet; no arm raises it. Safe. -/
  | notModelled (mnemonic : String)
  /-- Raised by the bus for an access that is not a 32-bit word at a multiple of 4 (20_memory.md R64, U1: "a model
  refuses it"). Safe: such an access has no defined effect. -/
  | notAlignedWord (off width : Nat)
  /-- Raised by the bus for an access at offset 0x800 or above (20_memory.md R65, U2: "a model of the block
  refuses it"). Safe: such an access is outside the block. -/
  | outsideWindow (off : Nat)
deriving DecidableEq, Repr

/-- The machine right after reset, as 10_state.md R45 gives it: `crc` is `CRC_INIT`, every other register 0, the code
`NONE`, and no buffer byte written, so that each reads as its draw. -/
def State.reset : State where
  slave := 0
  startReg := 0
  count := 0
  byteCount := 0
  dataLen := 0
  crc := Config.crcInit
  code := .none
  nulSkipped := false
  echoShort := false
  frameValid := false
  txLen := 0
  frameFc := 0
  rxLen := 0
  respOff := 0
  respLen := 0
  payloadOff := 0
  payloadLen := 0
  rxReceived := 0
  rxComputed := 0
  mem := []
  resets := 0
  pending := []
  readData := Option.none

end Sys2Proof.Machine
end

