-- ==== Sys2Proof/Syntax.lean ====
section
/-! DEFINITION. The commands of the block: one constructor for each row of spec/opcode_table.json
(30_encoding.md R90). A reserved OP is no command and has no constructor (43_control.md R171). -/

namespace Sys2Proof

inductive Instr
  /-- `NOP`, OP 0x00 (43_control.md R170). -/
  | nop
  /-- `BUILD_RHR`, OP 0x03 (41_framer.md R133). -/
  | buildRhr
  /-- `BUILD_RIR`, OP 0x04 (41_framer.md R134). -/
  | buildRir
  /-- `BUILD_WMR`, OP 0x10 (41_framer.md R135). -/
  | buildWmr
  /-- `CRC_RESET`, OP 0x80 (40_crc.md R112). -/
  | crcReset
  /-- `CRC_BYTE`, OP 0x81, with its byte operand `ARG` (40_crc.md R113). -/
  | crcByte (arg : Byte)
  /-- `PARSE`, OP 0x82 (42_parser.md R150). -/
  | parse
deriving DecidableEq, Repr

end Sys2Proof
end

