-- ==== Sys2Proof/WellFormed.lean ====
section
/-! DEFINITION. Well-formed terms. A command's one operand is a byte by its type, so every `Instr` is well formed
(30_encoding.md R89: "There is one format and one length"). A host access is well formed when the bus defines it:
a 4-byte width, a multiple of 4, inside the window (20_memory.md R61, R62, R64, R65). -/

namespace Sys2Proof

/-- Every command is well formed, whatever its operand: no operand value is illegal (40_crc.md R113). -/
def Instr.wellFormed : Instr → Bool
  | .nop => true
  | .buildRhr => true
  | .buildRir => true
  | .buildWmr => true
  | .crcReset => true
  | .crcByte _ => true
  | .parse => true

namespace Machine

/-- The three conditions of a defined host access. -/
def definedAccess (off width : Nat) : Bool :=
  width == 4 && off % 4 == 0 && decide (off < Config.window)

def HostEvent.wellFormed : HostEvent → Bool
  | .read off width => definedAccess off width
  | .write off width _ => definedAccess off width
  | .reset => true

end Machine
end Sys2Proof
end

