-- ==== Sys2Proof/Decode.lean ====
section
/-! DEFINITION. Decoding and encoding of the command word (30_encoding.md R89 to R91): `OP[7:0]` is matched exactly on
all 8 bits, `ARG[15:8]` is the operand of `CRC_BYTE` and ignored by every other command, bits [31:16] are ignored. -/

namespace Sys2Proof

/-- `CMD.OP`, bits [7:0] of the command word (R89). -/
def opField (w : Word) : Byte := w.extractLsb' 0 8

/-- `CMD.ARG`, bits [15:8] of the command word (R89). -/
def argField (w : Word) : Byte := w.extractLsb' 8 8

/-- The OP value of each command (R90; the match value of its row in opcode_table.json). -/
def Instr.opcode : Instr → Byte
  | .nop => 0x00
  | .buildRhr => 0x03
  | .buildRir => 0x04
  | .buildWmr => 0x10
  | .crcReset => 0x80
  | .crcByte _ => 0x81
  | .parse => 0x82

/-- The `ARG` byte a command carries; zero where the command ignores it (log entry 8). -/
def Instr.arg : Instr → Byte
  | .crcByte b => b
  | .nop => 0
  | .buildRhr => 0
  | .buildRir => 0
  | .buildWmr => 0
  | .crcReset => 0
  | .parse => 0

/-- Why a word is no command. -/
inductive DecodeError
  /-- The 249 OP values that R90 does not list (R91). -/
  | reservedOp (op : Byte)
deriving DecidableEq, Repr

/-- The command a word selects, by its OP alone. Total on every word; a reserved OP is rejected by name. -/
def decode (w : Word) : Except DecodeError Instr :=
  let op := opField w
  if op = 0x00 then .ok .nop
  else if op = 0x03 then .ok .buildRhr
  else if op = 0x04 then .ok .buildRir
  else if op = 0x10 then .ok .buildWmr
  else if op = 0x80 then .ok .crcReset
  else if op = 0x81 then .ok (.crcByte (argField w))
  else if op = 0x82 then .ok .parse
  else .error (.reservedOp op)

/-- The word of a command, as `cmd MNEMONIC` and `cmd CRC_BYTE, b` write it (R94): `(ARG << 8) | OP`, the ignored bits
zero (log entry 8). -/
def encode (i : Instr) : Word := (0 : Half) ++ (i.arg ++ i.opcode)

/-- A word as `encode` writes it: the bits the command ignores are zero. -/
def canonicalWord (w : Word) : Bool :=
  w.extractLsb' 16 16 == 0 && (opField w == 0x81 || argField w == 0)

/-- The command word whose low `nbits` bits are those of `w`, every other bit zero. -/
def commandWord (nbits w : Nat) : Word := BitVec.ofNat 32 (w % 2 ^ nbits)

/-- What the decoder reads from a word numbered as spec/opcode_table.json numbers it: the command word is one 32-bit
bus word, so the table's bit k is the word's bit k. -/
def decodeTableWord (nbits w : Nat) : Option Instr :=
  match decode (commandWord nbits w) with
  | .ok i => some i
  | .error _ => none

end Sys2Proof
end

