-- ==== Sys2Proof/Machine/Crc.lean ====
section
/-! DEFINITION. The CRC function (40_crc.md R110, R111): CRC-16/MODBUS, not CCITT (90_conflicts.md C1). -/

namespace Sys2Proof.Machine

/-- One of the eight iterations of R110: the bit tested is bit 0 before the shift. -/
def crcShift (c : Half) : Half :=
  if c.getLsbD 0 then (c >>> 1) ^^^ Config.crcPoly else c >>> 1

/-- `n` iterations of `crcShift`. -/
def crcShifts : Nat → Half → Half
  | 0, c => c
  | n + 1, c => crcShifts n (crcShift c)

/-- `crc_step(c, b)` (R110): the byte is xored into the low byte, then eight iterations. -/
def crcStep (c : Half) (b : Byte) : Half := crcShifts 8 (c ^^^ b.setWidth 16)

/-- `CRC16(c0, s)` (R111): `crc_step` folded over `s` from its first byte, with no final step. -/
def crc16 (c : Half) : List Byte → Half
  | [] => c
  | b :: rest => crc16 (crcStep c b) rest

end Sys2Proof.Machine
end

