-- ==== Sys2Proof/Machine/Ops.lean ====
section
/-! DEFINITION. The named operations over memory and registers, and the shared effects of the commands: `emit`
(41_framer.md R130), `build_fail` (R136), `parse_abort` (42_parser.md R159), the report of a status code (60_exceptions.md
R180) and reset (70_reset_and_hazards.md R210). The block takes no exception and returns from none (R186, R187): reporting a
code is all that an error does. -/

namespace Sys2Proof.Machine

/-! ### Memory -/

/-- The byte written at offset `a` since reset, if any. -/
def Memory.read : Memory → Nat → Option Byte
  | [], _ => Option.none
  | c :: m, a => if c.1 = a then some c.2 else Memory.read m a

/-- Write one byte, keeping the offsets strictly rising. -/
def Memory.write : Memory → Nat → Byte → Memory
  | [], a, v => [(a, v)]
  | c :: m, a, v =>
    if a < c.1 then (a, v) :: c :: m
    else if a = c.1 then (a, v) :: m
    else c :: Memory.write m a v

/-- Write bytes at `a`, `a + 1`, …, the first of the list at `a`. -/
def Memory.writeBytes (m : Memory) (a : Nat) : List Byte → Memory
  | [] => m
  | b :: bs => Memory.writeBytes (m.write a b) (a + 1) bs

/-- The window offset of `DATABUF[0]` (10_state.md R40). -/
def dataBase : Nat := 0x100

/-- The window offset of `TXBUF[0]` (10_state.md R41). -/
def txBase : Nat := 0x200

/-- The window offset of `RXBUF[0]` (10_state.md R42). -/
def rxBase : Nat := 0x400

/-- The offsets at which a buffer byte is stored. -/
def isBufferByte (a : Nat) : Bool :=
  (decide (dataBase ≤ a) && decide (a < dataBase + Config.dataBufSize)) ||
  (decide (txBase ≤ a) && decide (a < txBase + Config.txMax)) ||
  (decide (rxBase ≤ a) && decide (a < rxBase + Config.rxMax))

/-- Every offset of the list is above `a`. -/
def Memory.above (a : Nat) : Memory → Bool
  | [] => true
  | c :: m => decide (a < c.1) && Memory.above a m

/-- The canonical form: offsets strictly rising, each one the offset of a buffer byte. -/
def Memory.wf : Memory → Bool
  | [] => true
  | c :: m => isBufferByte c.1 && Memory.above c.1 m && Memory.wf m

/-- The buffer byte at offset `a`: what was last written there, or the draw of the last reset (10_state.md R45). The one
operation that reads buffer bytes. -/
def State.byte (s : State) (a : Nat) : Byte :=
  match s.mem.read a with
  | some v => v
  | Option.none => Config.resetDraw s.resets a

/-- The `n` buffer bytes from offset `a` on, in order. -/
def State.bytes (s : State) (a : Nat) : Nat → List Byte
  | 0 => []
  | n + 1 => s.byte a :: State.bytes s (a + 1) n

/-- `DATABUF[i]`, `TXBUF[i]`, `RXBUF[i]` (00_scope.md R12). -/
def State.dataBuf (s : State) (i : Nat) : Byte := s.byte (dataBase + i)
def State.txBuf (s : State) (i : Nat) : Byte := s.byte (txBase + i)
def State.rxBuf (s : State) (i : Nat) : Byte := s.byte (rxBase + i)

/-! ### Named updates of the state -/

/-- `STATUS.CODE <- c`: how every command reports its result, errors included (60_exceptions.md R180). -/
def State.report (s : State) (c : StatusCode) : State := { s with code := c }

/-- `crc <- c`. -/
def State.setCrc (s : State) (c : Half) : State := { s with crc := c }

/-- The buffers' bytes. -/
def State.setMem (s : State) (m : Memory) : State := { s with mem := m }

/-- `frame_valid`, `tx_len` and `frame_fc` (10_state.md R44). -/
def State.setFrame (s : State) (valid : Bool) (len : BitVec 9) (fc : Byte) : State :=
  { s with frameValid := valid, txLen := len, frameFc := fc }

/-- `STATUS.NUL_SKIPPED` and `STATUS.ECHO_SHORT`. -/
def State.setFlags (s : State) (nul echo : Bool) : State :=
  { s with nulSkipped := nul, echoShort := echo }

/-- `RESP_OFF` and `RESP_LEN`. -/
def State.setCandidate (s : State) (off len : BitVec 11) : State :=
  { s with respOff := off, respLen := len }

/-- `PAYLOAD_OFF` and `PAYLOAD_LEN`. -/
def State.setPayload (s : State) (off : BitVec 11) (len : Byte) : State :=
  { s with payloadOff := off, payloadLen := len }

/-- `RX_CRC.RECEIVED` and `RX_CRC.COMPUTED`. -/
def State.setRxCrc (s : State) (received computed : Half) : State :=
  { s with rxReceived := received, rxComputed := computed }

/-- The events still to come. -/
def State.setPending (s : State) (es : List HostEvent) : State := { s with pending := es }

/-- What the host's `MemRead` returned. -/
def State.setReadData (s : State) (w : Word) : State := { s with readData := some w }

/-! ### Shared effects of the commands -/

/-- The two bytes of a CRC in wire order: low byte, then high byte (20_memory.md R69, 30_encoding.md R87). -/
def crcBytes (c : Half) : List Byte := [c.extractLsb' 0 8, c.extractLsb' 8 8]

/-- `emit(fc, body)` (R130): address, function code, body and CRC go to `TXBUF`; bytes above are unchanged. -/
def emit (fc : Byte) (body : List Byte) (s : State) : State :=
  let f := s.slave :: fc :: body
  let c := crc16 Config.crcInit f
  let frame := f ++ crcBytes c
  (((s.setMem (s.mem.writeBytes txBase frame)).setCrc c).setFrame true
    (BitVec.ofNat 9 frame.length) fc).report .ok

/-- `build_fail()` (R136). -/
def buildFail (s : State) : State := (s.setFrame false 0 0).report .paramError

/-- `parse_abort(code)` (R159). -/
def parseAbort (c : StatusCode) (s : State) : State :=
  ((((s.setFlags false false).setCandidate 0 0).setPayload 0 0).setRxCrc 0 0).report c

/-- The platform's reset (70_reset_and_hazards.md R210): every piece of the block's state takes its value of R45, and the
buffers take a fresh draw. The events still to come and the host's read latch are not the block's and stay (log entry 5). -/
def State.platformReset (s : State) : State :=
  { State.reset with resets := s.resets + 1, pending := s.pending, readData := s.readData }

end Sys2Proof.Machine
end

