-- ==== Sys2Proof/Machine/Control.lean ====
section
/-! DEFINITION. The control commands (43_control.md): NOP, and what a reserved OP does. -/

namespace Sys2Proof.Machine

/-- `NOP` (R170): no state changes. -/
def execNop (s : State) : Host.Outcome State Fault Refusal := .next s

/-- A reserved OP (R171): `STATUS.CODE <- ILLEGAL_OP`, nothing else changes. It is no command of the table. -/
def execReservedOp (s : State) : Host.Outcome State Fault Refusal := .next (s.report .illegalOp)

end Sys2Proof.Machine
end

