-- ==== Sys2Proof/Machine/CrcCommands.lean ====
section
/-! DEFINITION. The CRC generator commands (40_crc.md R112, R113). -/

namespace Sys2Proof.Machine

/-- `CRC_RESET` (R112). -/
def execCrcReset (s : State) : Host.Outcome State Fault Refusal :=
  .next ((s.setCrc Config.crcInit).report .ok)

/-- `CRC_BYTE` (R113). -/
def execCrcByte (arg : Byte) (s : State) : Host.Outcome State Fault Refusal :=
  .next ((s.setCrc (crcStep s.crc arg)).report .ok)

end Sys2Proof.Machine
end

