-- ==== Sys2Proof/Machine/Operands.lean ====
section
/-! DEFINITION. The operands of the commands: the body of a request frame (41_framer.md R132, R135) and the parts of the
received bytes that PARSE looks at (42_parser.md R151 to R156). -/

namespace Sys2Proof.Machine

/-- A 16-bit register value in wire order: high byte, then low byte (20_memory.md R68, 30_encoding.md R87). -/
def fieldBytes (v : Half) : List Byte := [v.extractLsb' 8 8, v.extractLsb' 0 8]

/-- `rd_body` (R132). -/
def rdBody (s : State) : List Byte := fieldBytes s.startReg ++ fieldBytes s.count

/-- The body of a write request: `rd_body`, the byte count and the data (R135). -/
def wmrBody (s : State) : List Byte :=
  rdBody s ++ s.byteCount :: s.bytes dataBase s.byteCount.toNat

/-- `DATA_LEN.LEN == zext_9(BYTE_COUNT.BC)` (R135). -/
def dataLenMatches (s : State) : Bool := s.dataLen == s.byteCount.setWidth 9

/-- `n`, the number of received bytes (R150). -/
def rxCount (s : State) : Nat := s.rxLen.toNat

/-- `t`, the echo length (R151). -/
def echoLen (s : State) : Nat := s.txLen.toNat

/-- `n < t`: the echo is incomplete (R151). -/
def echoIsShort (s : State) : Bool := decide (rxCount s < echoLen s)

/-- `skip`: a byte follows the echo and it is 0x00 (R152). -/
def nulFollows (s : State) : Bool := decide (echoLen s < rxCount s) && s.rxBuf (echoLen s) == 0

/-- `off`, where the candidate response starts in `RXBUF` (R153). -/
def candidateOff (s : State) : Nat := min (rxCount s) (echoLen s + (nulFollows s).toNat)

/-- `m`, the length of the candidate response (R153). -/
def candidateLen (s : State) : Nat := rxCount s - candidateOff s

/-- `c`, the CRC over all but the last two candidate bytes (R156). -/
def computedCrc (s : State) : Half :=
  crc16 Config.crcInit (s.bytes (rxBase + candidateOff s) (candidateLen s - 2))

/-- `r`, the CRC the candidate carries: the last byte is the high byte (R155, 90_conflicts.md C2). -/
def receivedCrc (s : State) : Half :=
  s.rxBuf (candidateOff s + candidateLen s - 1) ++ s.rxBuf (candidateOff s + candidateLen s - 2)

/-- The byte-count field, at offset 2 of the candidate (R158). -/
def respByteCount (s : State) : Byte := s.rxBuf (candidateOff s + 2)

end Sys2Proof.Machine
end

