-- ==== Sys2Proof/Machine/Framer.lean ====
section
/-! DEFINITION. The framer commands (41_framer.md R133 to R135). -/

namespace Sys2Proof.Machine

/-- `BUILD_RHR` (R133). -/
def execBuildRhr (s : State) : Host.Outcome State Fault Refusal := .next (emit 0x03 (rdBody s) s)

/-- `BUILD_RIR` (R134). -/
def execBuildRir (s : State) : Host.Outcome State Fault Refusal := .next (emit 0x04 (rdBody s) s)

/-- `BUILD_WMR` (R135): it fails when the data length differs from the byte count. -/
def execBuildWmr (s : State) : Host.Outcome State Fault Refusal :=
  if dataLenMatches s then .next (emit 0x10 (wmrBody s) s) else .next (buildFail s)

end Sys2Proof.Machine
end

