-- ==== Sys2Proof/Machine/Parser.lean ====
section
/-! DEFINITION. The frame parser command (42_parser.md R150). -/

namespace Sys2Proof.Machine

/-- The registers PARSE writes before it classifies the candidate: no payload, no CRC, the two flags, the candidate's
place (R150 to R153). -/
def locateCandidate (s : State) : State :=
  (((s.setPayload 0 0).setRxCrc 0 0).setFlags (nulFollows s) (echoIsShort s)).setCandidate
    (BitVec.ofNat 11 (candidateOff s)) (BitVec.ofNat 11 (candidateLen s))

/-- The CRC check's record: `crc` and `RX_CRC` (R155, R156). -/
def recordCrc (s t : State) : State := (t.setCrc (computedCrc s)).setRxCrc (receivedCrc s) (computedCrc s)

/-- After a good CRC (R157, R158): a read response must have the length its byte count gives; a write response, and any
other function code (log entry 10), has no payload. -/
def acceptPayload (s t : State) : State :=
  if s.frameFc = 0x03 ∨ s.frameFc = 0x04 then
    if candidateLen s ≠ (respByteCount s).toNat + 5 then t.report .bcntError
    else (t.setPayload (BitVec.ofNat 11 (candidateOff s + 3)) (respByteCount s)).report .ok
  else t.report .ok

/-- PARSE against a retained frame, with at most 1024 received bytes (R150). -/
def parseCandidate (s : State) : State :=
  let t := locateCandidate s
  if candidateLen s = 0 then t.report .noResponse
  else if candidateLen s < Config.minResp then t.report .shortFrame
  else if receivedCrc s ≠ computedCrc s then (recordCrc s t).report .crcError
  else acceptPayload s (recordCrc s t)

/-- `PARSE` (R150). -/
def execParse (s : State) : Host.Outcome State Fault Refusal :=
  if s.frameValid = false then .next (parseAbort .seqError s)
  else if Config.rxMax < rxCount s then .next (parseAbort .paramError s)
  else .next (parseCandidate s)

end Sys2Proof.Machine
end

