-- ==== Sys2Proof/Machine/Dispatch.lean ====
section
/-! DEFINITION. The meaning of each command, one arm per constructor of `Instr`. -/

namespace Sys2Proof.Machine

def exec (i : Instr) (s : State) : Host.Outcome State Fault Refusal :=
  match i with
  | .nop => Sys2Proof.Machine.execNop s
  | .buildRhr => Sys2Proof.Machine.execBuildRhr s
  | .buildRir => Sys2Proof.Machine.execBuildRir s
  | .buildWmr => Sys2Proof.Machine.execBuildWmr s
  | .crcReset => Sys2Proof.Machine.execCrcReset s
  | .crcByte arg => Sys2Proof.Machine.execCrcByte arg s
  | .parse => Sys2Proof.Machine.execParse s

end Sys2Proof.Machine
end

