-- ==== Sys2Proof/Machine/Flags.lean ====
section
/-! DEFINITION. The STATUS register as software reads it (10_state.md R23), with the encoding of the codes
(60_exceptions.md R181) and the retryable bit (R183). -/

namespace Sys2Proof.Machine

/-- The four bits of `STATUS.CODE` (R181). -/
def StatusCode.bits : StatusCode → BitVec 4
  | .none => 0x0
  | .ok => 0x1
  | .noResponse => 0x2
  | .shortFrame => 0x3
  | .crcError => 0x4
  | .bcntError => 0x5
  | .paramError => 0x6
  | .seqError => 0x7
  | .illegalOp => 0x8

/-- `STATUS.RETRYABLE`: one of `NO_RESPONSE`, `SHORT_FRAME`, `CRC_ERROR`, `BCNT_ERROR` (R183). -/
def StatusCode.retryable : StatusCode → Bool
  | .none => false
  | .ok => false
  | .noResponse => true
  | .shortFrame => true
  | .crcError => true
  | .bcntError => true
  | .paramError => false
  | .seqError => false
  | .illegalOp => false

/-- `STATUS`: CODE[3:0], NUL_SKIPPED[4], ECHO_SHORT[5], FRAME_VALID[6], RETRYABLE[7], bits [31:8] zero (R23). -/
def statusWord (s : State) : Word :=
  (0 : BitVec 24) ++ (BitVec.ofBool s.code.retryable ++ (BitVec.ofBool s.frameValid ++
    (BitVec.ofBool s.echoShort ++ (BitVec.ofBool s.nulSkipped ++ s.code.bits))))

end Sys2Proof.Machine
end

