-- ==== Sys2Proof/Machine/RegMap.lean ====
section
/-! DEFINITION. The register map of the host-bus window (10_state.md section 2): which register or buffer an offset
names, what a register reads as, and what a store to it does. -/

namespace Sys2Proof.Machine

/-- The sixteen registers of the map. -/
inductive Reg
  | cmd | status | slave | startReg | count | byteCount | dataLen | crc
  | txLen | frameFc | rxLen | respOff | respLen | payloadOff | payloadLen | rxCrc
deriving DecidableEq, Repr

/-- The offset column of the map. -/
def Reg.offset : Reg → Nat
  | .cmd => 0x000
  | .status => 0x004
  | .slave => 0x008
  | .startReg => 0x00C
  | .count => 0x010
  | .byteCount => 0x014
  | .dataLen => 0x018
  | .crc => 0x01C
  | .txLen => 0x020
  | .frameFc => 0x024
  | .rxLen => 0x028
  | .respOff => 0x02C
  | .respLen => 0x030
  | .payloadOff => 0x034
  | .payloadLen => 0x038
  | .rxCrc => 0x03C

/-- The registers in the order of the map. -/
def regMap : List Reg :=
  [.cmd, .status, .slave, .startReg, .count, .byteCount, .dataLen, .crc,
   .txLen, .frameFc, .rxLen, .respOff, .respLen, .payloadOff, .payloadLen, .rxCrc]

/-- What an offset of the window names. -/
inductive Region
  | reg (r : Reg)
  | dataBuf
  | txBuf
  /-- `TXBUF` bytes 264 to 271, which read 0 (R41). -/
  | txPad
  | rxBuf
  /-- 0x040 to 0x0FC and 0x310 to 0x3FC (R38). -/
  | reserved
deriving DecidableEq, Repr

/-- The map, for an offset inside the window. -/
def regionOf (off : Nat) : Region :=
  if off < 0x100 then
    match regMap.find? (fun r => r.offset == off) with
    | some r => .reg r
    | Option.none => .reserved
  else if off < 0x200 then .dataBuf
  else if off < 0x308 then .txBuf
  else if off < 0x310 then .txPad
  else if off < 0x400 then .reserved
  else .rxBuf

/-- What a host-bus read of a register returns: the stored fields at their positions and 0 elsewhere (R22 to R37, R39). -/
def regRead (s : State) : Reg → Word
  | .cmd => 0
  | .status => statusWord s
  | .slave => s.slave.setWidth 32
  | .startReg => s.startReg.setWidth 32
  | .count => s.count.setWidth 32
  | .byteCount => s.byteCount.setWidth 32
  | .dataLen => s.dataLen.setWidth 32
  | .crc => s.crc.setWidth 32
  | .txLen => s.txLen.setWidth 32
  | .frameFc => s.frameFc.setWidth 32
  | .rxLen => s.rxLen.setWidth 32
  | .respOff => s.respOff.setWidth 32
  | .respLen => s.respLen.setWidth 32
  | .payloadOff => s.payloadOff.setWidth 32
  | .payloadLen => s.payloadLen.setWidth 32
  | .rxCrc => s.rxComputed ++ s.rxReceived

/-- What a store to a register other than CMD does: an RW register keeps the defined bits, an RO register ignores the
store (R23 to R39). A store to CMD runs a command and is not done here. -/
def regStore (s : State) (w : Word) : Reg → State
  | .cmd => s
  | .status => s
  | .slave => { s with slave := w.setWidth 8 }
  | .startReg => { s with startReg := w.setWidth 16 }
  | .count => { s with count := w.setWidth 16 }
  | .byteCount => { s with byteCount := w.setWidth 8 }
  | .dataLen => { s with dataLen := w.setWidth 9 }
  | .crc => s.setCrc (w.setWidth 16)
  | .txLen => s
  | .frameFc => s
  | .rxLen => { s with rxLen := w.setWidth 11 }
  | .respOff => s
  | .respLen => s
  | .payloadOff => s
  | .payloadLen => s
  | .rxCrc => s

/-- Four bytes as a word, little-endian lanes: the first byte in bits [7:0] (20_memory.md R63). -/
def packWord (b0 b1 b2 b3 : Byte) : Word := b3 ++ (b2 ++ (b1 ++ b0))

/-- The bytes of a word in lane order (R63). -/
def laneBytes (w : Word) : List Byte :=
  [w.extractLsb' 0 8, w.extractLsb' 8 8, w.extractLsb' 16 8, w.extractLsb' 24 8]

/-- The buffer word at offset `off` (R63). -/
def State.word (s : State) (off : Nat) : Word :=
  packWord (s.byte off) (s.byte (off + 1)) (s.byte (off + 2)) (s.byte (off + 3))

/-- Store a buffer word at offset `off` (R63). -/
def State.storeWord (s : State) (off : Nat) (w : Word) : State :=
  s.setMem (s.mem.writeBytes off (laneBytes w))

end Sys2Proof.Machine
end

