-- ==== Sys2Proof/Machine/HostBus.lean ====
section
/-! DEFINITION. The host-bus accesses (20_memory.md R61 to R65), the write to CMD that runs a command (10_state.md R22), and
what one event from outside does to the block. -/

namespace Sys2Proof.Machine

/-- Why the bus refuses an access, if it does (R64, R65). An access that is both outside and misaligned is named by the
first (log entry 6). -/
def accessRefusal (off width : Nat) : Option Refusal :=
  if Config.window ≤ off then some (.outsideWindow off)
  else if width = 4 ∧ off % 4 = 0 then Option.none
  else some (.notAlignedWord off width)

/-- `MemRead(off, 4)` for a defined access (R61). -/
def busRead (s : State) (off : Nat) : Word :=
  match regionOf off with
  | .reg r => regRead s r
  | .dataBuf => s.word off
  | .txBuf => s.word off
  | .txPad => 0
  | .rxBuf => s.word off
  | .reserved => 0

/-- A write to CMD runs the command its word selects, at once (R22); a reserved OP reports `ILLEGAL_OP` (43_control.md
R171). -/
def runCommand (w : Word) (s : State) : Host.Outcome State Fault Refusal :=
  match decode w with
  | .ok i => exec i s
  | .error _ => execReservedOp s

/-- `MemWrite(off, 4, w)` for a defined access (R62). -/
def busWrite (s : State) (off : Nat) (w : Word) : Host.Outcome State Fault Refusal :=
  match regionOf off with
  | .reg .cmd => runCommand w s
  | .reg r => .next (regStore s w r)
  | .dataBuf => .next (s.storeWord off w)
  | .txBuf => .next s
  | .txPad => .next s
  | .rxBuf => .next (s.storeWord off w)
  | .reserved => .next s

/-- What one event does. A read changes nothing but what the host has read (R61, R66). -/
def onEvent (e : HostEvent) (s : State) : Host.Outcome State Fault Refusal :=
  match e with
  | .reset => .next s.platformReset
  | .read off width =>
    match accessRefusal off width with
    | some r => .refused r
    | Option.none => .next (s.setReadData (busRead s off))
  | .write off width w =>
    match accessRefusal off width with
    | some r => .refused r
    | Option.none => busWrite s off w

/-- The next event is taken from the list and acts (R74); with no event to come the block does nothing (log entry 1). -/
def takeEvent (s : State) : Host.Outcome State Fault Refusal :=
  match s.pending with
  | [] => .next s
  | e :: es => onEvent e (s.setPending es)

/-- The host's next access is a write of the word `w` to CMD. -/
def State.pushCommand (s : State) (w : Word) : State :=
  s.setPending (.write Reg.cmd.offset 4 w :: s.pending)

end Sys2Proof.Machine
end

