-- ==== Sys2Proof/Machine/Step.lean ====
section
/-! DEFINITION. One step of the machine: one event from outside, in the host's order (20_memory.md R74). -/

namespace Sys2Proof.Machine

def step (s : State) : Host.Outcome State Fault Refusal := takeEvent s

/-- The block fetches no instruction (10_state.md R21): its next command is the host's next write to CMD, and this is the
state in which that write is the next event (log entry 7). -/
def State.withFetchWord (s : State) (nbits w : Nat) : State := s.pushCommand (commandWord nbits w)

end Sys2Proof.Machine
end

