-- ==== Sys2Proof/Machine/HostProgram.lean ====
section
/-! DEFINITION. Host programs (30_encoding.md R94, R95): the notation `sw`, `lw`, `cmd`, the pseudo-instructions and their
expansions into host-bus accesses, and the run of a list of events. -/

namespace Sys2Proof.Machine

/-- Continue with the next state, or stop as the first outcome stopped. -/
def andThen {α β : Type} (o : Host.Outcome α Fault Refusal) (f : α → Host.Outcome β Fault Refusal) :
    Host.Outcome β Fault Refusal :=
  match o with
  | .next a => f a
  | .fault r => .fault r
  | .refused r => .refused r

/-- The events of the list, one after another (20_memory.md R74). -/
def runEvents : List HostEvent → State → Host.Outcome State Fault Refusal
  | [], s => .next s
  | e :: es, s => andThen (onEvent e s) (runEvents es)

/-- `sw NAME, v` for a register (R94). -/
def sw (r : Reg) (v : Word) : HostEvent := .write r.offset 4 v

/-- `lw NAME` for a register (R94). -/
def lw (r : Reg) : HostEvent := .read r.offset 4

/-- `cmd MNEMONIC`, `cmd CRC_BYTE, b` (R94). -/
def cmd (i : Instr) : HostEvent := sw .cmd (encode i)

/-- The word stores that place bytes from offset `base` on, bytes past the end of the list as 0x00 (R95); a list longer
than the buffer goes on past it (log entry 14). -/
def storeBytes (base : Nat) : List Byte → List HostEvent
  | [] => []
  | [b0] => [.write base 4 (packWord b0 0 0 0)]
  | [b0, b1] => [.write base 4 (packWord b0 b1 0 0)]
  | [b0, b1, b2] => [.write base 4 (packWord b0 b1 b2 0)]
  | b0 :: b1 :: b2 :: b3 :: rest =>
    .write base 4 (packWord b0 b1 b2 b3) :: storeBytes (base + 4) rest

/-- `crc.block b0, ..., b(n-1)` (R95). -/
def crcBlock (bs : List Byte) : List HostEvent := cmd .crcReset :: bs.map (fun b => cmd (.crcByte b))

/-- `data.load b0, ..., b(n-1)` (R95). -/
def dataLoad (bs : List Byte) : List HostEvent :=
  storeBytes dataBase bs ++ [sw .dataLen (BitVec.ofNat 32 bs.length)]

/-- `rx.load b0, ..., b(n-1)` (R95). -/
def rxLoad (bs : List Byte) : List HostEvent :=
  storeBytes rxBase bs ++ [sw .rxLen (BitVec.ofNat 32 bs.length)]

/-- The stores of the three operands that every request has (R95). -/
def requestOperands (a : Byte) (r c : Half) : List HostEvent :=
  [sw .slave (a.setWidth 32), sw .startReg (r.setWidth 32), sw .count (c.setWidth 32)]

/-- `build.rhr a, r, c` (R95). -/
def buildRhrProgram (a : Byte) (r c : Half) : List HostEvent := requestOperands a r c ++ [cmd .buildRhr]

/-- `build.rir a, r, c` (R95). -/
def buildRirProgram (a : Byte) (r c : Half) : List HostEvent := requestOperands a r c ++ [cmd .buildRir]

/-- `build.wmr a, r, c, bc` (R95). -/
def buildWmrProgram (a : Byte) (r c : Half) (bc : Byte) : List HostEvent :=
  requestOperands a r c ++ [sw .byteCount (bc.setWidth 32), cmd .buildWmr]

end Sys2Proof.Machine
end

