-- ==== Sys2Proof/Machine/HostProtocol.lean ====
section
/-! DEFINITION. The host's side of one exchange (60_exceptions.md R192 to R196): build the frame, then at most `MAX_ATTEMPTS`
attempts, each a transmission, a reception and a PARSE. The host drives the block through its bus accesses; what the serial
link does in each attempt is an argument (U5; log entry 11). -/

namespace Sys2Proof.Machine

/-- The three public operations of the document, with their arguments (10_state.md R20). -/
inductive Request
  | readHolding (slave : Byte) (start count : Half)
  | readInput (slave : Byte) (start count : Half)
  | writeMultiple (slave : Byte) (start count : Half) (byteCount : Byte) (data : List Byte)
deriving DecidableEq, Repr

/-- What the serial link does in one attempt. -/
inductive LinkOutcome
  /-- The bytes of one serial read; the host reads at most 1024 of them. -/
  | received (bytes : List Byte)
  /-- An I/O exception in the transmission or the reception (R192). -/
  | ioException
  /-- The link could not be opened again before this attempt (R195). No reopening precedes attempt 1; that the outcome is allowed
  there, and what it then means, is the model's choice (log entry 16). -/
  | reopenFailed
deriving DecidableEq, Repr

/-- What the host does to the serial link. -/
inductive LinkAction
  | transmit (frame : List Byte)
  | reopen
  | sleep (ms : Nat)
deriving DecidableEq, Repr

/-- How an attempt ends: the code PARSE left, or `TransportError`, which has no code (R182, R192). -/
inductive AttemptResult
  | status (c : StatusCode)
  | transportError
deriving DecidableEq, Repr

/-- How an exchange ends (R192). -/
inductive ExchangeResult
  /-- The payload of a read. -/
  | payload (bytes : List Byte)
  /-- The sentinel of a write: no payload (R199). -/
  | written
  /-- The last attempt's error, or the error of the build (R194). -/
  | failed (r : AttemptResult)
deriving DecidableEq, Repr

/-- The block after a part of an exchange, what the host did to the link so far, and the result of that part. -/
structure HostRun (ρ : Type) where
  state : State
  actions : List LinkAction
  result : ρ
deriving DecidableEq, Repr

/-- The accesses of steps 1 to 3, "Build Frame" (R192, 30_encoding.md R95). -/
def Request.program : Request → List HostEvent
  | .readHolding a r c => buildRhrProgram a r c
  | .readInput a r c => buildRirProgram a r c
  | .writeMultiple a r c bc data => dataLoad data ++ buildWmrProgram a r c bc

/-- What a successful exchange returns (R192). -/
def Request.success (q : Request) (s : State) : ExchangeResult :=
  match q with
  | .readHolding _ _ _ => .payload (s.bytes (rxBase + s.payloadOff.toNat) s.payloadLen.toNat)
  | .readInput _ _ _ => .payload (s.bytes (rxBase + s.payloadOff.toNat) s.payloadLen.toNat)
  | .writeMultiple _ _ _ _ _ => .written

/-- The request frame, `TXBUF[0..TX_LEN)` (10_state.md R41). -/
def State.frame (s : State) : List Byte := s.bytes txBase s.txLen.toNat

/-- `attempt()` (R192): a link that fails places no byte in the block (log entry 9). An attempt whose link could not be opened
again fails with `TransportError` and transmits nothing, attempt 1 too (log entries 9 and 16). -/
def attempt (l : LinkOutcome) (s : State) : Host.Outcome (HostRun AttemptResult) Fault Refusal :=
  match l with
  | .reopenFailed => .next { state := s, actions := [], result := .transportError }
  | .ioException => .next { state := s, actions := [.transmit s.frame], result := .transportError }
  | .received bytes =>
    andThen (runEvents (rxLoad (bytes.take Config.rxMax) ++ [cmd .parse]) s) fun t =>
      .next { state := t, actions := [.transmit s.frame], result := .status t.code }

/-- What the host answers by another attempt (R183, R193). -/
def AttemptResult.retryable : AttemptResult → Bool
  | .status c => c.retryable
  | .transportError => true

/-- The loop of R192 from attempt number `a` on, with `left` attempts allowed after it; `link a` is what the link does in
attempt `a`. -/
def attempts (p : Config.HostParams) (q : Request) (link : Nat → LinkOutcome) :
    (left : Nat) → (a : Nat) → List LinkAction → State →
      Host.Outcome (HostRun ExchangeResult) Fault Refusal
  | 0, a, done, s =>
    andThen (attempt (link a) s) fun r =>
      if r.result = .status .ok then
        .next { state := r.state, actions := done ++ r.actions, result := q.success r.state }
      else .next { state := r.state, actions := done ++ r.actions, result := .failed r.result }
  | left + 1, a, done, s =>
    andThen (attempt (link a) s) fun r =>
      if r.result = .status .ok then
        .next { state := r.state, actions := done ++ r.actions, result := q.success r.state }
      else if r.result.retryable then
        attempts p q link left (a + 1) (done ++ r.actions ++ [.reopen, .sleep p.backoffMs]) r.state
      else .next { state := r.state, actions := done ++ r.actions, result := .failed r.result }

/-- `exchange` (R192). The attempts are numbered from 1. -/
def exchange (p : Config.HostParams) (q : Request) (link : Nat → LinkOutcome) (s : State) :
    Host.Outcome (HostRun ExchangeResult) Fault Refusal :=
  andThen (runEvents q.program s) fun t =>
    if t.code = .ok then attempts p q link (p.maxAttempts - 1) 1 [] t
    else .next { state := t, actions := [], result := .failed (.status t.code) }

end Sys2Proof.Machine
end

