-- ==== Sys2Proof/Safety.lean ====
section
/-! DEFINITION. What a safe run is, in the terms the statements use: which parts of the state two states share (the frames of
the commands), the invariant of the block, and the states from which no event is refused. -/

namespace Sys2Proof.Machine

/-! ### Parts of the state that two states share -/

/-- The registers that only the host writes (10_state.md R20, R32). -/
def SameOperands (s t : State) : Prop :=
  t.slave = s.slave ∧ t.startReg = s.startReg ∧ t.count = s.count ∧ t.byteCount = s.byteCount ∧
  t.dataLen = s.dataLen ∧ t.rxLen = s.rxLen

/-- The registers of the retained frame (10_state.md R44). -/
def SameFrame (s t : State) : Prop :=
  t.frameValid = s.frameValid ∧ t.txLen = s.txLen ∧ t.frameFc = s.frameFc

/-- The results of the last PARSE (41_framer.md R131). -/
def SameParseResult (s t : State) : Prop :=
  t.nulSkipped = s.nulSkipped ∧ t.echoShort = s.echoShort ∧ t.respOff = s.respOff ∧ t.respLen = s.respLen ∧
  t.payloadOff = s.payloadOff ∧ t.payloadLen = s.payloadLen ∧
  t.rxReceived = s.rxReceived ∧ t.rxComputed = s.rxComputed

/-- The model's own fields: no command touches them. -/
def SameHostSide (s t : State) : Prop :=
  t.resets = s.resets ∧ t.pending = s.pending ∧ t.readData = s.readData

/-- Every buffer byte reads as before. -/
def SameBytes (s t : State) : Prop := ∀ a, t.byte a = s.byte a

/-- Every buffer byte outside `[lo, lo + n)` reads as before. -/
def SameBytesOutside (lo n : Nat) (s t : State) : Prop :=
  ∀ a, a < lo ∨ lo + n ≤ a → t.byte a = s.byte a

/-! ### The invariant of the block -/

/-- The retained frame (10_state.md R30, R31, R44; 30_encoding.md R80, R83, R92): with no frame retained the length and the
function code are 0; a retained frame carries its function code in byte 1, has the length of its kind, and its CRC is right. -/
def FrameInv (s : State) : Prop :=
  (s.frameValid = false → s.txLen = 0 ∧ s.frameFc = 0) ∧
  (s.frameValid = true →
    s.txBuf 1 = s.frameFc ∧
    (((s.frameFc = 0x03 ∨ s.frameFc = 0x04) ∧ s.txLen.toNat = 8) ∨
      (s.frameFc = 0x10 ∧ s.txLen.toNat = 9 + (s.txBuf 6).toNat)) ∧
    crc16 Config.crcInit s.frame = 0)

/-- The parse results (10_state.md R33 to R36): the candidate lies in `RXBUF`, and there is either no payload or one that the
candidate's length accounts for. -/
def ParseInv (s : State) : Prop :=
  s.respOff.toNat + s.respLen.toNat ≤ Config.rxMax ∧
  ((s.payloadOff = 0 ∧ s.payloadLen = 0) ∨
    (s.payloadOff.toNat = s.respOff.toNat + 3 ∧ s.respLen.toNat = s.payloadLen.toNat + 5))

def Inv (s : State) : Prop := Memory.wf s.mem = true ∧ FrameInv s ∧ ParseInv s

/-! ### Safe states -/

/-- Every event still to come is one the bus defines (20_memory.md R61 to R65), and the invariant holds. -/
def SafeState (s : State) : Prop := (∀ e ∈ s.pending, e.wellFormed = true) ∧ Inv s

/-! ### The bytes of a 16-bit value, by arithmetic (30_encoding.md R87) -/

/-- `v[15:8]`. -/
def hiByte (v : Half) : Byte := BitVec.ofNat 8 (v.toNat / 256)

/-- `v[7:0]`. -/
def loByte (v : Half) : Byte := BitVec.ofNat 8 (v.toNat % 256)

/-- The first six bytes of a read request (30_encoding.md R81). -/
def readRequestHead (fc : Byte) (s : State) : List Byte :=
  [s.slave, fc, hiByte s.startReg, loByte s.startReg, hiByte s.count, loByte s.count]

/-- The bytes of a write request before its CRC (30_encoding.md R82). -/
def writeRequestHead (s : State) : List Byte :=
  [s.slave, 0x10, hiByte s.startReg, loByte s.startReg, hiByte s.count, loByte s.count, s.byteCount] ++
    (List.range s.byteCount.toNat).map s.dataBuf

/-- A sequence followed by its CRC, low byte first (30_encoding.md R80). -/
def withCrc (f : List Byte) : List Byte :=
  f ++ [loByte (crc16 0xFFFF f), hiByte (crc16 0xFFFF f)]

/-- `t` retains the frame `f` with function code `fc`, and reports success (41_framer.md R130). -/
def BuiltFrame (fc : Byte) (f : List Byte) (t : State) : Prop :=
  t.frame = withCrc f ∧ t.txLen.toNat = f.length + 2 ∧ t.frameFc = fc ∧ t.frameValid = true ∧
  t.crc = crc16 0xFFFF f ∧ t.code = .ok

/-- The three BUILD commands. -/
def isBuild : Instr → Bool
  | .nop => false
  | .buildRhr => true
  | .buildRir => true
  | .buildWmr => true
  | .crcReset => false
  | .crcByte _ => false
  | .parse => false

/-- PARSE looks at the received bytes: a frame is retained and at most 1024 bytes were received (42_parser.md R150). -/
def ParseReady (s : State) : Prop := s.frameValid = true ∧ s.rxLen.toNat ≤ 1024

/-- No payload is returned (10_state.md R35, R36). -/
def NoPayload (t : State) : Prop := t.payloadOff = 0 ∧ t.payloadLen = 0

/-- The candidate response that the parse result `t` names (42_parser.md R153). -/
def candidate (t : State) : List Byte := t.bytes (rxBase + t.respOff.toNat) t.respLen.toNat

/-- The payload that the parse result `t` names (42_parser.md R158). -/
def payload (t : State) : List Byte := t.bytes (rxBase + t.payloadOff.toNat) t.payloadLen.toNat

/-- Two states agree on what PARSE reads (42_parser.md R150, operands). -/
def SameParseInputs (s s' : State) : Prop :=
  s'.frameValid = s.frameValid ∧ s'.txLen = s.txLen ∧ s'.frameFc = s.frameFc ∧ s'.rxLen = s.rxLen ∧
  ∀ k, k < s.rxLen.toNat → s'.rxBuf k = s.rxBuf k

/-- Two states agree on what a BUILD reads (41_framer.md R137). -/
def SameBuildInputs (s s' : State) : Prop :=
  s'.slave = s.slave ∧ s'.startReg = s.startReg ∧ s'.count = s.count ∧ s'.byteCount = s.byteCount ∧
  s'.dataLen = s.dataLen ∧ ∀ k, k < s.byteCount.toNat → s'.dataBuf k = s.dataBuf k

/-! ### The transmissions of an exchange -/

def LinkAction.isTransmit : LinkAction → Bool
  | .transmit _ => true
  | .reopen => false
  | .sleep _ => false

def LinkAction.isReopen : LinkAction → Bool
  | .transmit _ => false
  | .reopen => true
  | .sleep _ => false

/-- How many times the frame was transmitted. -/
def transmissions (as : List LinkAction) : Nat := as.countP LinkAction.isTransmit

/-- How many times the link was opened again. -/
def reopens (as : List LinkAction) : Nat := as.countP LinkAction.isReopen

/-- What one attempt with the retained frame `f` does to the link (60_exceptions.md R192): it transmits the frame, unless the link
could not be opened again (log entry 9). -/
def LinkOutcome.actions (f : List Byte) : LinkOutcome → List LinkAction
  | .received _ => [.transmit f]
  | .ioException => [.transmit f]
  | .reopenFailed => []

/-- What the attempts 1 to `n` do to the link when all but the last are followed by another (60_exceptions.md R195): a reopening
and the backoff stand between any two attempts, and nowhere else. -/
def actionsOfAttempts (p : Config.HostParams) (link : Nat → LinkOutcome) (f : List Byte) : Nat → List LinkAction
  | 0 => []
  | 1 => (link 1).actions f
  | n + 2 =>
    actionsOfAttempts p link f (n + 1) ++ [.reopen, .sleep p.backoffMs] ++ (link (n + 2)).actions f

end Sys2Proof.Machine
end

