-- ==== Sys2Proof/Certificates/Slice0/Obligations.lean ====
section
/-! DEFINITION. The statements about the model, for the provers. Each says which rule of spec/ it formalises, or which sections
it is derived from; a statement that rests on a choice of the model names the log entry. -/

open Sys2Proof Sys2Proof.Machine

/-! ### Encoding -/

/-- Derived from 30_encoding.md R89 to R91: decoding an encoded command gives it back, operand and all, and the other way round
for the words whose ignored bits are zero (that `encode` writes zero there is the model's choice, log entry 8). -/
def Obligations.DecodeInvertsEncode : Prop :=
  (∀ i, decode (encode i) = .ok i) ∧
  (∀ w i, canonicalWord w = true → decode w = .ok i → encode i = w)

/-- 30_encoding.md R90 and R91: the OP byte alone selects the command, the ARG byte is the operand of CRC_BYTE, every other OP
is reserved, 249 of them, and writing one reports ILLEGAL_OP and changes nothing else. -/
def Obligations.DecodeSelectsByOpAlone : Prop :=
  (∀ w : Word,
    (decode w = .ok .nop ↔ w.toNat % 256 = 0x00) ∧
    (decode w = .ok .buildRhr ↔ w.toNat % 256 = 0x03) ∧
    (decode w = .ok .buildRir ↔ w.toNat % 256 = 0x04) ∧
    (decode w = .ok .buildWmr ↔ w.toNat % 256 = 0x10) ∧
    (decode w = .ok .crcReset ↔ w.toNat % 256 = 0x80) ∧
    (∀ b : Byte, decode w = .ok (.crcByte b) ↔ w.toNat % 256 = 0x81 ∧ b.toNat = w.toNat / 256 % 256) ∧
    (decode w = .ok .parse ↔ w.toNat % 256 = 0x82) ∧
    (∀ op : Byte, decode w = .error (.reservedOp op) ↔
      op.toNat = w.toNat % 256 ∧ w.toNat % 256 ∉ [0x00, 0x03, 0x04, 0x10, 0x80, 0x81, 0x82]) ∧
    (∀ s, w.toNat % 256 ∉ [0x00, 0x03, 0x04, 0x10, 0x80, 0x81, 0x82] →
      runCommand w s = .next { s with code := .illegalOp })) ∧
  ((List.range 256).filter fun n => n ∉ [0x00, 0x03, 0x04, 0x10, 0x80, 0x81, 0x82]).length = 249

/-- Derived from 30_encoding.md R89 and R90: words written out from the encoding, with the ignored bits set in some. -/
def Obligations.TableWordsDecode : Prop :=
  decode 0x00000000 = .ok .nop ∧ decode 0x0000FF00 = .ok .nop ∧
  decode 0x00000003 = .ok .buildRhr ∧ decode 0xFFFFFF03 = .ok .buildRhr ∧
  decode 0x00000004 = .ok .buildRir ∧ decode 0x00000010 = .ok .buildWmr ∧
  decode 0x00000080 = .ok .crcReset ∧ decode 0x00000181 = .ok (.crcByte 0x01) ∧
  decode 0xABCDA581 = .ok (.crcByte 0xA5) ∧ decode 0x00000082 = .ok .parse ∧
  decode 0x00000006 = .error (.reservedOp 0x06) ∧ decode 0xFFFF0083 = .error (.reservedOp 0x83)

/-! ### One step -/

/-- Derived from 10_state.md R22: when the host's next access writes to CMD a word that decodes to `i`, the step is `exec i` in
the state with that access taken; the list of accesses to come is the model's choice (log entry 1). -/
def Obligations.StepRunsDecodedCommand : Prop :=
  ∀ (s : State) (w : Word) (i : Instr) (rest : List HostEvent),
    s.pending = .write 0x000 4 w :: rest → decode w = .ok i → step s = exec i { s with pending := rest }

/-- Derived from 43_control.md R171: a reserved OP reports ILLEGAL_OP and changes nothing else of the block. That the step takes the
event from the list of events to come is the model's choice (log entry 1). -/
def Obligations.StepReservedOpcode : Prop :=
  ∀ (s : State) (w : Word) (rest : List HostEvent),
    s.pending = .write 0x000 4 w :: rest →
    w.toNat % 256 ∉ [0x00, 0x03, 0x04, 0x10, 0x80, 0x81, 0x82] →
    step s = .next { s with pending := rest, code := .illegalOp }

/-- Derived from 20_memory.md R74: a step takes the first event of the host's order. That a step with no event to come changes
nothing is the model's choice (log entry 1). -/
def Obligations.StepTakesEventsInOrder : Prop :=
  (∀ (s : State) (e : HostEvent) (rest : List HostEvent),
    s.pending = e :: rest → step s = onEvent e { s with pending := rest }) ∧
  (∀ s : State, s.pending = [] → step s = .next s)

/-- The model's placing of a command as the host's next access (log entry 7, derived from 10_state.md R21 and R22): the next step
runs exactly the word's command. -/
def Obligations.PlacedWordRunsNext : Prop :=
  ∀ (s : State) (w : Word), step (s.withFetchWord 32 w.toNat) = runCommand w s

/-! ### The CRC -/

/-- 40_crc.md R110: the byte goes into the low byte, then eight times a right shift, with the polynomial where bit 0 was set. -/
def Obligations.CrcStepIsEightShifts : Prop :=
  ∀ (c : Half) (b : Byte),
    crcStep c b =
      (fun x : Half => if x.toNat % 2 = 1 then (x >>> 1) ^^^ (0xA001 : Half) else x >>> 1)^[8]
        (c ^^^ b.setWidth 16)

/-- 40_crc.md R115: the empty sequence, concatenation, feeding by CRC_BYTE, and linearity. -/
def Obligations.CrcArithmeticLaws : Prop :=
  (∀ c, crc16 c [] = c) ∧
  (∀ c s t, crc16 c (s ++ t) = crc16 (crc16 c s) t) ∧
  (∀ (bs : List Byte) (s : State), ∃ t,
    bs.foldl (fun o b => andThen o (exec (.crcByte b))) (.next s) = .next t ∧ t.crc = crc16 s.crc bs) ∧
  (∀ c d a b, crcStep (c ^^^ d) (a ^^^ b) = crcStep c a ^^^ crcStep d b)

/-- 40_crc.md R116: a sequence followed by its own CRC, low byte first, has CRC 0, and so has every built frame. -/
def Obligations.CrcResidueIsZero : Prop :=
  (∀ f : List Byte, crc16 0xFFFF (withCrc f) = 0) ∧
  (∀ (i : Instr) (s t : State), isBuild i = true → exec i s = .next t → t.frameValid = true →
    crc16 0xFFFF t.frame = 0)

/-- Derived from 40_crc.md R110 and R111: two sequences that differ in exactly one byte have different CRCs. -/
def Obligations.OneChangedByteChangesCrc : Prop :=
  ∀ (c : Half) (p q : List Byte) (a b : Byte), a ≠ b → crc16 c (p ++ a :: q) ≠ crc16 c (p ++ b :: q)

/-- 40_crc.md R112: CRC_RESET always succeeds and changes `crc` and the code only, whatever CMD word selects it. -/
def Obligations.CrcResetResult : Prop :=
  ∀ s : State, exec .crcReset s = .next { s with crc := 0xFFFF, code := .ok } ∧
    ∀ w : Word, w.toNat % 256 = 0x80 → runCommand w s = .next { s with crc := 0xFFFF, code := .ok }

/-- 40_crc.md R113: CRC_BYTE always succeeds and changes `crc` and the code only; its operand is bits [15:8] of the CMD word. -/
def Obligations.CrcByteResult : Prop :=
  (∀ (s : State) (b : Byte), exec (.crcByte b) s = .next { s with crc := crcStep s.crc b, code := .ok }) ∧
  (∀ (s : State) (w : Word), w.toNat % 256 = 0x81 →
    runCommand w s = .next { s with crc := crcStep s.crc (BitVec.ofNat 8 (w.toNat / 256)), code := .ok }) ∧
  crcStep 0xFFFF 0x00 = 0x40BF ∧ crcStep 0x0000 0x00 = 0x0000

/-! ### The framer -/

/-- 41_framer.md R133 and R134 with 30_encoding.md R81: the frames of BUILD_RHR and BUILD_RIR, for every operand value and
every CMD word that selects them. -/
def Obligations.BuildReadFrames : Prop :=
  ∀ s : State,
    (∃ t, exec .buildRhr s = .next t ∧ BuiltFrame 0x03 (readRequestHead 0x03 s) t ∧
      ∀ w : Word, w.toNat % 256 = 0x03 → runCommand w s = .next t) ∧
    (∃ t, exec .buildRir s = .next t ∧ BuiltFrame 0x04 (readRequestHead 0x04 s) t ∧
      ∀ w : Word, w.toNat % 256 = 0x04 → runCommand w s = .next t)

/-- 30_encoding.md R82: the frame of BUILD_WMR when the data length is the byte count, 0 to 255. -/
def Obligations.BuildWriteFrame : Prop :=
  ∀ s : State, s.dataLen.toNat = s.byteCount.toNat →
    ∃ t, exec .buildWmr s = .next t ∧ BuiltFrame 0x10 (writeRequestHead s) t ∧
      t.txLen.toNat = 9 + s.byteCount.toNat

/-- 41_framer.md R136: a failed BUILD drops the retained frame, reports PARAM_ERROR and changes nothing else, a PARSE after it
reports SEQ_ERROR, and only BUILD_WMR can fail. -/
def Obligations.FailedBuildDropsFrame : Prop :=
  (∀ s : State, s.dataLen.toNat ≠ s.byteCount.toNat →
    exec .buildWmr s = .next { s with frameValid := false, txLen := 0, frameFc := 0, code := .paramError }) ∧
  (∀ s t : State, exec .buildWmr s = .next t → t.code = .paramError →
    ∃ u, exec .parse t = .next u ∧ u.code = .seqError) ∧
  (∀ s t : State, exec .buildRhr s = .next t ∨ exec .buildRir s = .next t → t.code = .ok)

/-- Derived from 41_framer.md R130, R131 and R136: what a BUILD leaves unchanged. The bytes stored are the frame's, the first
`tx_len` of TXBUF; a failed BUILD stores none. -/
def Obligations.BuildFrameCondition : Prop :=
  ∀ (i : Instr) (s : State), isBuild i = true →
    ∃ t, exec i s = .next t ∧ SameOperands s t ∧ SameParseResult s t ∧ SameHostSide s t ∧
      SameBytesOutside txBase t.txLen.toNat s t ∧ (t.frameValid = false → t.crc = s.crc)

/-- 41_framer.md R137: a BUILD's result is a function of its operands. -/
def Obligations.BuildIsDeterministic : Prop :=
  ∀ (i : Instr) (s s' : State), isBuild i = true → SameBuildInputs s s' →
    ∃ t t', exec i s = .next t ∧ exec i s' = .next t' ∧ t'.frame = t.frame ∧ SameFrame t t' ∧ t'.code = t.code

/-- 41_framer.md R138: no store other than a command changes the retained frame. -/
def Obligations.StoresKeepRetainedFrame : Prop :=
  ∀ (s : State) (off : Nat) (w : Word), off ≠ 0x000 → off % 4 = 0 → off < 0x800 →
    ∃ t, onEvent (.write off 4 w) s = .next t ∧ SameFrame s t ∧ t.frame = s.frame ∧
      ∀ k, k < 264 → t.txBuf k = s.txBuf k

/-! ### The parser -/

/-- 42_parser.md R159: PARSE refused before it looks at RXBUF. -/
def Obligations.ParseAborts : Prop :=
  (∀ s : State, s.frameValid = false →
    exec .parse s = .next { s with
      code := .seqError, nulSkipped := false, echoShort := false, respOff := 0, respLen := 0,
      payloadOff := 0, payloadLen := 0, rxReceived := 0, rxComputed := 0 }) ∧
  (∀ s : State, s.frameValid = true → 1024 < s.rxLen.toNat →
    exec .parse s = .next { s with
      code := .paramError, nulSkipped := false, echoShort := false, respOff := 0, respLen := 0,
      payloadOff := 0, payloadLen := 0, rxReceived := 0, rxComputed := 0 })

/-- 42_parser.md R152 and R153: the echo, the one NUL that is skipped if it follows, and the candidate after them. -/
def Obligations.ParseSplitsReceivedBytes : Prop :=
  ∀ s : State, ParseReady s →
    ∃ t, exec .parse s = .next t ∧
      (t.echoShort = true ↔ s.rxLen.toNat < s.txLen.toNat) ∧
      (t.nulSkipped = true ↔ s.txLen.toNat < s.rxLen.toNat ∧ s.rxBuf s.txLen.toNat = 0x00) ∧
      t.respOff.toNat = min s.rxLen.toNat (s.txLen.toNat + if t.nulSkipped = true then 1 else 0) ∧
      t.respLen.toNat = s.rxLen.toNat - t.respOff.toNat

/-- 42_parser.md R154: an empty candidate is no response, one of 1 to 3 bytes a short frame, and no CRC is computed. -/
def Obligations.ParseEmptyOrShortCandidate : Prop :=
  ∀ s t : State, ParseReady s → exec .parse s = .next t →
    (t.respLen.toNat = 0 → t.code = .noResponse) ∧
    (1 ≤ t.respLen.toNat ∧ t.respLen.toNat ≤ 3 → t.code = .shortFrame) ∧
    (t.respLen.toNat ≤ 3 → t.crc = s.crc ∧ t.rxReceived = 0 ∧ t.rxComputed = 0 ∧ NoPayload t)

/-- 42_parser.md R155 and R156: the received CRC is the last byte times 256 plus the one before, the computed CRC is left in `crc`
and RX_CRC, and any difference is CRC_ERROR. -/
def Obligations.ParseChecksCrc : Prop :=
  ∀ s t : State, ParseReady s → exec .parse s = .next t → 4 ≤ t.respLen.toNat →
    t.rxReceived.toNat = (s.rxBuf (t.respOff.toNat + t.respLen.toNat - 1)).toNat * 256 +
      (s.rxBuf (t.respOff.toNat + t.respLen.toNat - 2)).toNat ∧
    t.rxComputed = crc16 0xFFFF ((candidate t).take (t.respLen.toNat - 2)) ∧
    t.crc = t.rxComputed ∧
    (t.rxReceived ≠ t.rxComputed ↔ t.code = .crcError) ∧
    (t.code = .crcError → NoPayload t)

/-- 42_parser.md R158: after a good CRC a read response is accepted exactly when its length is its byte count plus 5. -/
def Obligations.ParseReadResponse : Prop :=
  ∀ s t : State, ParseReady s → exec .parse s = .next t → 4 ≤ t.respLen.toNat → t.rxReceived = t.rxComputed →
    s.frameFc = 0x03 ∨ s.frameFc = 0x04 →
    (t.respLen.toNat = (s.rxBuf (t.respOff.toNat + 2)).toNat + 5 →
      t.code = .ok ∧ t.payloadOff.toNat = t.respOff.toNat + 3 ∧
      t.payloadLen = s.rxBuf (t.respOff.toNat + 2)) ∧
    (t.respLen.toNat ≠ (s.rxBuf (t.respOff.toNat + 2)).toNat + 5 → t.code = .bcntError ∧ NoPayload t)

/-- 42_parser.md R157: after a good CRC a write response is accepted and returns the sentinel; its bytes stay readable. -/
def Obligations.ParseWriteResponse : Prop :=
  ∀ s t : State, ParseReady s → exec .parse s = .next t → 4 ≤ t.respLen.toNat → t.rxReceived = t.rxComputed →
    s.frameFc = 0x10 → t.code = .ok ∧ NoPayload t ∧ candidate t = s.bytes (rxBase + t.respOff.toNat) t.respLen.toNat

/-- 60_exceptions.md R184: PARSE reports the first condition that holds, in this order; every other command can raise at most
one error code, PARAM_ERROR. -/
def Obligations.ParseStatusPriority : Prop :=
  (∀ s t : State, exec .parse s = .next t →
    t.code =
      if s.frameValid = false then .seqError
      else if 1024 < s.rxLen.toNat then .paramError
      else if t.respLen.toNat = 0 then .noResponse
      else if t.respLen.toNat < 4 then .shortFrame
      else if t.rxReceived ≠ t.rxComputed then .crcError
      else if (s.frameFc = 0x03 ∨ s.frameFc = 0x04) ∧
          t.respLen.toNat ≠ (s.rxBuf (t.respOff.toNat + 2)).toNat + 5 then .bcntError
      else .ok) ∧
  (∀ (i : Instr) (s t : State), i ≠ .parse → i ≠ .nop → exec i s = .next t → t.code = .ok ∨ t.code = .paramError)

/-- Derived from 42_parser.md R150 and R159, 10_state.md R44: what PARSE leaves unchanged; it stores to no buffer, and `crc` changes
only where the CRC check is reached. -/
def Obligations.ParseFrameCondition : Prop :=
  ∀ s : State, ∃ t, exec .parse s = .next t ∧
    SameOperands s t ∧ SameFrame s t ∧ SameHostSide s t ∧ SameBytes s t ∧ t.mem = s.mem ∧
    (¬ParseReady s ∨ t.respLen.toNat < 4 → t.crc = s.crc)

/-- 42_parser.md R160: what a PARSE that ends with OK has established, and that no payload comes with any other code. -/
def Obligations.ParseOkEstablishes : Prop :=
  ∀ s t : State, exec .parse s = .next t →
    (t.code = .ok →
      4 ≤ t.respLen.toNat ∧
      crc16 0xFFFF ((candidate t).take (t.respLen.toNat - 2)) = t.rxReceived ∧
      crc16 0xFFFF (candidate t) = 0 ∧
      (s.frameFc = 0x03 ∨ s.frameFc = 0x04 →
        t.respLen.toNat = t.payloadLen.toNat + 5 ∧
        t.payloadOff.toNat + t.payloadLen.toNat + 2 = t.rxLen.toNat)) ∧
    (t.code ≠ .ok → NoPayload t)

/-- Derived from 42_parser.md R150 ("so it can be repeated and gives the same result on the same inputs"). -/
def Obligations.ParseIsRepeatable : Prop :=
  ∀ s t : State, exec .parse s = .next t → exec .parse t = .next t

/-- Derived from 42_parser.md R150: the results of PARSE depend on its operands alone, and on no RXBUF byte at or above RX_LEN. -/
def Obligations.ParseReadsOnlyItsOperands : Prop :=
  ∀ s s' : State, SameParseInputs s s' →
    ∃ t t', exec .parse s = .next t ∧ exec .parse s' = .next t' ∧ SameParseResult t t' ∧ t'.code = t.code ∧
      (ParseReady s → 4 ≤ t.respLen.toNat → t'.crc = t.crc)

/-- Derived from 30_encoding.md R84, R86 and 42_parser.md R150: with a read request retained, an echo of its length, at most one
NUL, and then a response with the right byte count and CRC, PARSE succeeds and names exactly the payload. Where no NUL was
inserted the response must not start with 0x00 (70_reset_and_hazards.md R224). -/
def Obligations.ParseAcceptsReadResponse : Prop :=
  ∀ (s : State) (nul : List Byte) (a f : Byte) (data : List Byte),
    ParseReady s → s.frameFc = 0x03 ∨ s.frameFc = 0x04 →
    nul = [0x00] ∨ (nul = [] ∧ a ≠ 0x00) →
    data.length ≤ 255 →
    s.rxLen.toNat = s.txLen.toNat + nul.length + (data.length + 5) →
    s.bytes (rxBase + s.txLen.toNat) (nul.length + (data.length + 5)) =
      nul ++ withCrc (a :: f :: BitVec.ofNat 8 data.length :: data) →
    ∃ t, exec .parse s = .next t ∧ t.code = .ok ∧ payload t = data

/-- Derived from 42_parser.md R150, R156 and 40_crc.md R110: if PARSE succeeds, then with exactly one byte of the candidate changed
(not the byte that follows the echo, whose value also decides the NUL skip) it reports CRC_ERROR. -/
def Obligations.ParseDetectsOneCorruptedByte : Prop :=
  ∀ (s s' t : State) (k : Nat), exec .parse s = .next t → t.code = .ok →
    s'.frameValid = s.frameValid → s'.txLen = s.txLen → s'.frameFc = s.frameFc → s'.rxLen = s.rxLen →
    s.txLen.toNat < k → t.respOff.toNat ≤ k → k < s.rxLen.toNat →
    (∀ j, j < s.rxLen.toNat → j ≠ k → s'.rxBuf j = s.rxBuf j) → s'.rxBuf k ≠ s.rxBuf k →
    ∃ t', exec .parse s' = .next t' ∧ t'.code = .crcError

/-! ### All commands -/

/-- 60_exceptions.md R185: the codes each command can raise. -/
def Obligations.CodesEachCommandRaises : Prop :=
  (∀ s t : State, exec .nop s = .next t → t.code = s.code) ∧
  (∀ (s t : State) (b : Byte), exec .crcReset s = .next t ∨ exec (.crcByte b) s = .next t ∨
    exec .buildRhr s = .next t ∨ exec .buildRir s = .next t → t.code = .ok) ∧
  (∀ s t : State, exec .buildWmr s = .next t → t.code ∈ [.ok, .paramError]) ∧
  (∀ s t : State, exec .parse s = .next t →
    t.code ∈ [.ok, .noResponse, .shortFrame, .crcError, .bcntError, .paramError, .seqError]) ∧
  (∀ (s t : State) (w : Word), w.toNat % 256 ∉ [0x00, 0x03, 0x04, 0x10, 0x80, 0x81, 0x82] →
    runCommand w s = .next t → t.code = .illegalOp)

/-- 60_exceptions.md R180: every command, in every state and with every operand, answers a next state, and its result does not
depend on the code an earlier command left. -/
def Obligations.CommandsNeverStop : Prop :=
  (∀ (i : Instr) (s : State), ∃ t, exec i s = .next t) ∧
  (∀ (w : Word) (s : State), ∃ t, runCommand w s = .next t) ∧
  (∀ (i : Instr) (s : State) (c : StatusCode), i ≠ .nop →
    exec i { s with code := c } = exec i s)

/-- 30_encoding.md R93: every command other than NOP writes the code (what it leaves depends on no earlier code, and NONE is left
by none of them), and only PARSE writes NUL_SKIPPED and ECHO_SHORT. -/
def Obligations.StatusWriters : Prop :=
  (∀ (i : Instr) (s t : State), i ≠ .nop → exec i s = .next t → t.code ≠ .none) ∧
  (∀ (i : Instr) (s : State) (c : StatusCode), i ≠ .nop → exec i { s with code := c } = exec i s) ∧
  (∀ (i : Instr) (s t : State), i ≠ .parse → exec i s = .next t →
    t.nulSkipped = s.nulSkipped ∧ t.echoShort = s.echoShort) ∧
  (∀ s : State, ∃ t, exec .parse s = .next t ∧
    ∀ n e, exec .parse { s with nulSkipped := n, echoShort := e } = .next t)

/-- 43_control.md R170: NOP changes nothing, and every word whose low byte is 0 is a NOP. -/
def Obligations.NopChangesNothing : Prop :=
  (∀ s : State, exec .nop s = .next s) ∧
  (∀ (s : State) (w : Word), w.toNat % 256 = 0 → runCommand w s = .next s)

/-! ### The host bus -/

/-- Derived from 10_state.md R23, 60_exceptions.md R181 and R183: the STATUS word, field by field. -/
def Obligations.StatusRegisterFields : Prop :=
  ∀ s : State,
    (busRead s 0x004).toNat =
      (match s.code with
        | .none => 0 | .ok => 1 | .noResponse => 2 | .shortFrame => 3 | .crcError => 4
        | .bcntError => 5 | .paramError => 6 | .seqError => 7 | .illegalOp => 8)
      + (if s.nulSkipped = true then 16 else 0) + (if s.echoShort = true then 32 else 0)
      + (if s.frameValid = true then 64 else 0)
      + (if s.code ∈ [.noResponse, .shortFrame, .crcError, .bcntError] then 128 else 0)

/-- Derived from the register map of 10_state.md section 2 and R22 to R37: what each register reads as. -/
def Obligations.RegisterReadValues : Prop :=
  ∀ s : State,
    busRead s 0x000 = 0 ∧
    (busRead s 0x008).toNat = s.slave.toNat ∧
    (busRead s 0x00C).toNat = s.startReg.toNat ∧
    (busRead s 0x010).toNat = s.count.toNat ∧
    (busRead s 0x014).toNat = s.byteCount.toNat ∧
    (busRead s 0x018).toNat = s.dataLen.toNat ∧
    (busRead s 0x01C).toNat = s.crc.toNat ∧
    (busRead s 0x020).toNat = s.txLen.toNat ∧
    (busRead s 0x024).toNat = s.frameFc.toNat ∧
    (busRead s 0x028).toNat = s.rxLen.toNat ∧
    (busRead s 0x02C).toNat = s.respOff.toNat ∧
    (busRead s 0x030).toNat = s.respLen.toNat ∧
    (busRead s 0x034).toNat = s.payloadOff.toNat ∧
    (busRead s 0x038).toNat = s.payloadLen.toNat ∧
    (busRead s 0x03C).toNat = s.rxComputed.toNat * 65536 + s.rxReceived.toNat

/-- Derived from 10_state.md R39 and 40_crc.md R114: a store to an RW register keeps the bits of its field, discards the others and does
nothing else; a read returns the field and 0 elsewhere, and a read of a register changes nothing (the host's latch of the result
is the model's, log entry 2). -/
def Obligations.RegisterStores : Prop :=
  ∀ (s : State) (w : Word),
    onEvent (.write 0x008 4 w) s = .next { s with slave := BitVec.ofNat 8 w.toNat } ∧
    onEvent (.write 0x00C 4 w) s = .next { s with startReg := BitVec.ofNat 16 w.toNat } ∧
    onEvent (.write 0x010 4 w) s = .next { s with count := BitVec.ofNat 16 w.toNat } ∧
    onEvent (.write 0x014 4 w) s = .next { s with byteCount := BitVec.ofNat 8 w.toNat } ∧
    onEvent (.write 0x018 4 w) s = .next { s with dataLen := BitVec.ofNat 9 w.toNat } ∧
    onEvent (.write 0x01C 4 w) s = .next { s with crc := BitVec.ofNat 16 w.toNat } ∧
    onEvent (.write 0x028 4 w) s = .next { s with rxLen := BitVec.ofNat 11 w.toNat } ∧
    (∀ p ∈ [(0x008, 8), (0x00C, 16), (0x010, 16), (0x014, 8), (0x018, 9), (0x01C, 16), (0x028, 11)],
      ∃ t, onEvent (.write p.1 4 w) s = .next t ∧ (busRead t p.1).toNat = w.toNat % 2 ^ p.2) ∧
    (∀ off, off % 4 = 0 → off < 0x040 →
      onEvent (.read off 4) s = .next { s with readData := some (busRead s off) })

/-- Derived from 20_memory.md R62, 10_state.md R41: a store to an RO register or a TXBUF word is ignored. -/
def Obligations.ReadOnlyStoresIgnored : Prop :=
  ∀ (s : State) (off : Nat) (w : Word), off % 4 = 0 →
    off ∈ [0x004, 0x020, 0x024, 0x02C, 0x030, 0x034, 0x038, 0x03C] ∨ (0x200 ≤ off ∧ off < 0x310) →
    onEvent (.write off 4 w) s = .next s

/-- 10_state.md R38: the reserved offsets read 0 and ignore writes. -/
def Obligations.ReservedOffsets : Prop :=
  ∀ (s : State) (off : Nat) (w : Word), off % 4 = 0 →
    (0x040 ≤ off ∧ off < 0x100) ∨ (0x310 ≤ off ∧ off < 0x400) →
    busRead s off = 0 ∧ onEvent (.write off 4 w) s = .next s

/-- 20_memory.md R63: the little-endian lanes of the buffer words, read and written; TXBUF bytes 264 to 271 read 0. -/
def Obligations.BufferWordLanes : Prop :=
  (∀ (s : State) (base k : Nat),
    (base = 0x100 ∧ k < 64) ∨ (base = 0x200 ∧ k < 66) ∨ (base = 0x400 ∧ k < 256) →
    (busRead s (base + 4 * k)).toNat =
      (s.byte (base + 4 * k)).toNat + (s.byte (base + 4 * k + 1)).toNat * 2 ^ 8 +
      (s.byte (base + 4 * k + 2)).toNat * 2 ^ 16 + (s.byte (base + 4 * k + 3)).toNat * 2 ^ 24) ∧
  (∀ (s : State) (k : Nat), k = 66 ∨ k = 67 → busRead s (0x200 + 4 * k) = 0) ∧
  (∀ (s : State) (base k : Nat) (w : Word), (base = 0x100 ∧ k < 64) ∨ (base = 0x400 ∧ k < 256) →
    ∃ t, onEvent (.write (base + 4 * k) 4 w) s = .next t ∧ t = { s with mem := t.mem } ∧
      (∀ j, j < 4 → t.byte (base + 4 * k + j) = BitVec.ofNat 8 (w.toNat / 2 ^ (8 * j))) ∧
      SameBytesOutside (base + 4 * k) 4 s t)

/-- 20_memory.md R64 and R65: an access is refused exactly when it is not an aligned 32-bit word or lies outside the window. -/
def Obligations.UndefinedAccessesRefused : Prop :=
  ∀ (s : State) (off width : Nat) (w : Word),
    ((∃ r, onEvent (.read off width) s = .refused r) ↔ width ≠ 4 ∨ off % 4 ≠ 0 ∨ 0x800 ≤ off) ∧
    ((∃ r, onEvent (.write off width w) s = .refused r) ↔ width ≠ 4 ∨ off % 4 ≠ 0 ∨ 0x800 ≤ off)

/-- Derived from 20_memory.md R66: a read has no side effect (the host holds its result; that latch is the model's, log entry 2), a repeated
write to any offset but CMD leaves the same state, and a write to CMD is not idempotent in general. -/
def Obligations.SideEffectsOfAccesses : Prop :=
  (∀ (s : State) (off : Nat), off % 4 = 0 → off < 0x800 →
    onEvent (.read off 4) s = .next { s with readData := some (busRead s off) }) ∧
  (∀ (s t : State) (off : Nat) (w : Word), off ≠ 0x000 → onEvent (.write off 4 w) s = .next t →
    onEvent (.write off 4 w) t = .next t) ∧
  (∃ (s t u : State) (w : Word), onEvent (.write 0x000 4 w) s = .next t ∧ onEvent (.write 0x000 4 w) t = .next u ∧
    u.crc ≠ t.crc)

/-! ### Reset and invariants -/

/-- 70_reset_and_hazards.md R211 with the register values of 10_state.md R45: what reset leaves, from any state. The
buffers' bytes are a free value (log entry 3), and nothing is said of them. -/
def Obligations.ResetLeavesSpecValues : Prop :=
  ∀ s : State, ∃ t, onEvent .reset s = .next t ∧
    t.crc = 0xFFFF ∧ t.code = .none ∧ t.nulSkipped = false ∧ t.echoShort = false ∧ t.frameValid = false ∧
    t.slave = 0 ∧ t.startReg = 0 ∧ t.count = 0 ∧ t.byteCount = 0 ∧ t.dataLen = 0 ∧ t.txLen = 0 ∧ t.frameFc = 0 ∧
    t.rxLen = 0 ∧ t.respOff = 0 ∧ t.respLen = 0 ∧ t.payloadOff = 0 ∧ t.payloadLen = 0 ∧
    t.rxReceived = 0 ∧ t.rxComputed = 0 ∧ busRead t 0x004 = 0 ∧
    (∃ u, exec .parse t = .next u ∧ u.code = .seqError)

/-- Derived from 10_state.md R45 and 70_reset_and_hazards.md R211: the state after power-on meets the invariant. -/
def Obligations.ResetMeetsInvariant : Prop := Inv State.reset

/-- Derived from 10_state.md R30, R31, R33 to R36 and R44, 30_encoding.md R80 and R92: every step, from every state that meets the
invariant and for every event, keeps it: the memory stays canonical, a retained frame stays one whose length, function code and
CRC are right, and the parse results stay inside RXBUF. -/
def Obligations.StepKeepsInvariant : Prop :=
  ∀ s t : State, Inv s → step s = .next t → Inv t

/-- Derived from 60_exceptions.md R180 and 20_memory.md R61 to R65: from a safe state, whose events to come are all defined, every
number of steps completes in a safe state. -/
def Obligations.SafeRunsNeverStop : Prop :=
  ∀ (n : Nat) (s : State), SafeState s → ∃ t, Host.Core.run Sys2Proof.core n s = .next t ∧ SafeState t

/-- The model's canonical form of the buffer memory (log entry 4, derived from 10_state.md R40 to R42): two canonical memories that
list the same bytes are equal. -/
def Obligations.EqualMemoriesAreEqualData : Prop :=
  ∀ m m' : Memory, Memory.wf m = true → Memory.wf m' = true →
    (∀ a, Memory.read m a = Memory.read m' a) → m = m'

/-! ### The host protocol -/

/-- Derived from 30_encoding.md R95: `rx.load` places its bytes in RXBUF, sets RX_LEN, and changes no other register. -/
def Obligations.RxLoadPlacesBytes : Prop :=
  ∀ (s : State) (bs : List Byte), bs.length ≤ 1024 →
    ∃ t, runEvents (rxLoad bs) s = .next t ∧ t.bytes rxBase bs.length = bs ∧
      t = { s with mem := t.mem, rxLen := BitVec.ofNat 11 bs.length } ∧
      ∀ a, a < rxBase → t.byte a = s.byte a

/-- Derived from 60_exceptions.md R194: an exchange transmits at most MAX_ATTEMPTS times, whatever the link does, and reopens it
fewer times than that. -/
def Obligations.ExchangeAttemptsBounded : Prop :=
  ∀ (p : Config.HostParams) (q : Request) (link : Nat → LinkOutcome) (s : State) (r : HostRun ExchangeResult),
    1 ≤ p.maxAttempts → exchange p q link s = .next r →
    transmissions r.actions ≤ p.maxAttempts ∧ reopens r.actions < p.maxAttempts

/-- Derived from 60_exceptions.md R195 and 10_state.md R44: every transmission of an exchange sends the same frame, the one the
block still retains at the end. -/
def Obligations.ExchangeRetransmitsSameFrame : Prop :=
  ∀ (p : Config.HostParams) (q : Request) (link : Nat → LinkOutcome) (s : State) (r : HostRun ExchangeResult)
    (f : List Byte), exchange p q link s = .next r → .transmit f ∈ r.actions → f = r.state.frame

/-- Derived from 60_exceptions.md R192 to R195: let a request's BUILD end with OK in `t`, and let every attempt from 1 to MAX_ATTEMPTS,
whichever way it fails, be one that fails retryably against the frame `t` retains. Then the exchange makes exactly MAX_ATTEMPTS
attempts, with a reopening and the backoff between any two of them and nowhere else, and ends with the last attempt's error. That
a failed reopening transmits nothing, and that it may be attempt 1's outcome, are the model's choices (log entries 9 and 16). -/
def Obligations.ExhaustedExchange : Prop :=
  ∀ (p : Config.HostParams) (q : Request) (link : Nat → LinkOutcome) (s t : State), 1 ≤ p.maxAttempts →
    runEvents q.program s = .next t → t.code = .ok →
    (∀ a, 1 ≤ a → a ≤ p.maxAttempts → ∃ r, attempt (link a) t = .next r ∧ r.result.retryable = true) →
    ∃ u r, exchange p q link s = .next u ∧ attempt (link p.maxAttempts) t = .next r ∧
      u.result = .failed r.result ∧
      u.actions = actionsOfAttempts p link t.frame p.maxAttempts ∧
      reopens u.actions + 1 = p.maxAttempts ∧
      ((∀ a, 1 ≤ a → a ≤ p.maxAttempts → link a ≠ .reopenFailed) → transmissions u.actions = p.maxAttempts)

/-- Derived from 60_exceptions.md R192 and R196: a write whose data length is not its byte count fails before any transmission. -/
def Obligations.CallerErrorEndsExchange : Prop :=
  ∀ (p : Config.HostParams) (link : Nat → LinkOutcome) (s : State) (a bc : Byte) (r c : Half) (data : List Byte),
    data.length ≤ 256 → data.length ≠ bc.toNat →
    ∃ u, exchange p (.writeMultiple a r c bc data) link s = .next u ∧
      u.actions = [] ∧ u.result = .failed (.status .paramError)

/-- Derived from 60_exceptions.md R192 and 42_parser.md R160: the payload an exchange returns is that of a candidate response whose
CRC over all its bytes is 0 and whose length its payload accounts for. -/
def Obligations.ExchangePayloadIsValidated : Prop :=
  ∀ (p : Config.HostParams) (q : Request) (link : Nat → LinkOutcome) (s : State) (r : HostRun ExchangeResult)
    (bs : List Byte), exchange p q link s = .next r → r.result = .payload bs →
    bs = payload r.state ∧ r.state.code = .ok ∧ crc16 0xFFFF (candidate r.state) = 0 ∧
      r.state.respLen.toNat = bs.length + 5
end

