-- ==== Sys2Proof/Laws/State.lean ====
section
/-! SUPPORT. The fields of the state after each named update (Machine/Ops.lean): one lemma for each field and update, so
that no later proof unfolds a record update. -/

namespace Sys2Proof.Machine.State

section report_fields
variable (s : State) (c : StatusCode)
@[simp] theorem report_slave : (s.report c).slave = s.slave := rfl
@[simp] theorem report_startReg : (s.report c).startReg = s.startReg := rfl
@[simp] theorem report_count : (s.report c).count = s.count := rfl
@[simp] theorem report_byteCount : (s.report c).byteCount = s.byteCount := rfl
@[simp] theorem report_dataLen : (s.report c).dataLen = s.dataLen := rfl
@[simp] theorem report_crc : (s.report c).crc = s.crc := rfl
@[simp] theorem report_code : (s.report c).code = c := rfl
@[simp] theorem report_nulSkipped : (s.report c).nulSkipped = s.nulSkipped := rfl
@[simp] theorem report_echoShort : (s.report c).echoShort = s.echoShort := rfl
@[simp] theorem report_frameValid : (s.report c).frameValid = s.frameValid := rfl
@[simp] theorem report_txLen : (s.report c).txLen = s.txLen := rfl
@[simp] theorem report_frameFc : (s.report c).frameFc = s.frameFc := rfl
@[simp] theorem report_rxLen : (s.report c).rxLen = s.rxLen := rfl
@[simp] theorem report_respOff : (s.report c).respOff = s.respOff := rfl
@[simp] theorem report_respLen : (s.report c).respLen = s.respLen := rfl
@[simp] theorem report_payloadOff : (s.report c).payloadOff = s.payloadOff := rfl
@[simp] theorem report_payloadLen : (s.report c).payloadLen = s.payloadLen := rfl
@[simp] theorem report_rxReceived : (s.report c).rxReceived = s.rxReceived := rfl
@[simp] theorem report_rxComputed : (s.report c).rxComputed = s.rxComputed := rfl
@[simp] theorem report_mem : (s.report c).mem = s.mem := rfl
@[simp] theorem report_resets : (s.report c).resets = s.resets := rfl
@[simp] theorem report_pending : (s.report c).pending = s.pending := rfl
@[simp] theorem report_readData : (s.report c).readData = s.readData := rfl
end report_fields

section setCrc_fields
variable (s : State) (c : Half)
@[simp] theorem setCrc_slave : (s.setCrc c).slave = s.slave := rfl
@[simp] theorem setCrc_startReg : (s.setCrc c).startReg = s.startReg := rfl
@[simp] theorem setCrc_count : (s.setCrc c).count = s.count := rfl
@[simp] theorem setCrc_byteCount : (s.setCrc c).byteCount = s.byteCount := rfl
@[simp] theorem setCrc_dataLen : (s.setCrc c).dataLen = s.dataLen := rfl
@[simp] theorem setCrc_crc : (s.setCrc c).crc = c := rfl
@[simp] theorem setCrc_code : (s.setCrc c).code = s.code := rfl
@[simp] theorem setCrc_nulSkipped : (s.setCrc c).nulSkipped = s.nulSkipped := rfl
@[simp] theorem setCrc_echoShort : (s.setCrc c).echoShort = s.echoShort := rfl
@[simp] theorem setCrc_frameValid : (s.setCrc c).frameValid = s.frameValid := rfl
@[simp] theorem setCrc_txLen : (s.setCrc c).txLen = s.txLen := rfl
@[simp] theorem setCrc_frameFc : (s.setCrc c).frameFc = s.frameFc := rfl
@[simp] theorem setCrc_rxLen : (s.setCrc c).rxLen = s.rxLen := rfl
@[simp] theorem setCrc_respOff : (s.setCrc c).respOff = s.respOff := rfl
@[simp] theorem setCrc_respLen : (s.setCrc c).respLen = s.respLen := rfl
@[simp] theorem setCrc_payloadOff : (s.setCrc c).payloadOff = s.payloadOff := rfl
@[simp] theorem setCrc_payloadLen : (s.setCrc c).payloadLen = s.payloadLen := rfl
@[simp] theorem setCrc_rxReceived : (s.setCrc c).rxReceived = s.rxReceived := rfl
@[simp] theorem setCrc_rxComputed : (s.setCrc c).rxComputed = s.rxComputed := rfl
@[simp] theorem setCrc_mem : (s.setCrc c).mem = s.mem := rfl
@[simp] theorem setCrc_resets : (s.setCrc c).resets = s.resets := rfl
@[simp] theorem setCrc_pending : (s.setCrc c).pending = s.pending := rfl
@[simp] theorem setCrc_readData : (s.setCrc c).readData = s.readData := rfl
end setCrc_fields

section setMem_fields
variable (s : State) (m : Memory)
@[simp] theorem setMem_slave : (s.setMem m).slave = s.slave := rfl
@[simp] theorem setMem_startReg : (s.setMem m).startReg = s.startReg := rfl
@[simp] theorem setMem_count : (s.setMem m).count = s.count := rfl
@[simp] theorem setMem_byteCount : (s.setMem m).byteCount = s.byteCount := rfl
@[simp] theorem setMem_dataLen : (s.setMem m).dataLen = s.dataLen := rfl
@[simp] theorem setMem_crc : (s.setMem m).crc = s.crc := rfl
@[simp] theorem setMem_code : (s.setMem m).code = s.code := rfl
@[simp] theorem setMem_nulSkipped : (s.setMem m).nulSkipped = s.nulSkipped := rfl
@[simp] theorem setMem_echoShort : (s.setMem m).echoShort = s.echoShort := rfl
@[simp] theorem setMem_frameValid : (s.setMem m).frameValid = s.frameValid := rfl
@[simp] theorem setMem_txLen : (s.setMem m).txLen = s.txLen := rfl
@[simp] theorem setMem_frameFc : (s.setMem m).frameFc = s.frameFc := rfl
@[simp] theorem setMem_rxLen : (s.setMem m).rxLen = s.rxLen := rfl
@[simp] theorem setMem_respOff : (s.setMem m).respOff = s.respOff := rfl
@[simp] theorem setMem_respLen : (s.setMem m).respLen = s.respLen := rfl
@[simp] theorem setMem_payloadOff : (s.setMem m).payloadOff = s.payloadOff := rfl
@[simp] theorem setMem_payloadLen : (s.setMem m).payloadLen = s.payloadLen := rfl
@[simp] theorem setMem_rxReceived : (s.setMem m).rxReceived = s.rxReceived := rfl
@[simp] theorem setMem_rxComputed : (s.setMem m).rxComputed = s.rxComputed := rfl
@[simp] theorem setMem_mem : (s.setMem m).mem = m := rfl
@[simp] theorem setMem_resets : (s.setMem m).resets = s.resets := rfl
@[simp] theorem setMem_pending : (s.setMem m).pending = s.pending := rfl
@[simp] theorem setMem_readData : (s.setMem m).readData = s.readData := rfl
end setMem_fields

section setFrame_fields
variable (s : State) (v : Bool) (l : BitVec 9) (f : Byte)
@[simp] theorem setFrame_slave : (s.setFrame v l f).slave = s.slave := rfl
@[simp] theorem setFrame_startReg : (s.setFrame v l f).startReg = s.startReg := rfl
@[simp] theorem setFrame_count : (s.setFrame v l f).count = s.count := rfl
@[simp] theorem setFrame_byteCount : (s.setFrame v l f).byteCount = s.byteCount := rfl
@[simp] theorem setFrame_dataLen : (s.setFrame v l f).dataLen = s.dataLen := rfl
@[simp] theorem setFrame_crc : (s.setFrame v l f).crc = s.crc := rfl
@[simp] theorem setFrame_code : (s.setFrame v l f).code = s.code := rfl
@[simp] theorem setFrame_nulSkipped : (s.setFrame v l f).nulSkipped = s.nulSkipped := rfl
@[simp] theorem setFrame_echoShort : (s.setFrame v l f).echoShort = s.echoShort := rfl
@[simp] theorem setFrame_frameValid : (s.setFrame v l f).frameValid = v := rfl
@[simp] theorem setFrame_txLen : (s.setFrame v l f).txLen = l := rfl
@[simp] theorem setFrame_frameFc : (s.setFrame v l f).frameFc = f := rfl
@[simp] theorem setFrame_rxLen : (s.setFrame v l f).rxLen = s.rxLen := rfl
@[simp] theorem setFrame_respOff : (s.setFrame v l f).respOff = s.respOff := rfl
@[simp] theorem setFrame_respLen : (s.setFrame v l f).respLen = s.respLen := rfl
@[simp] theorem setFrame_payloadOff : (s.setFrame v l f).payloadOff = s.payloadOff := rfl
@[simp] theorem setFrame_payloadLen : (s.setFrame v l f).payloadLen = s.payloadLen := rfl
@[simp] theorem setFrame_rxReceived : (s.setFrame v l f).rxReceived = s.rxReceived := rfl
@[simp] theorem setFrame_rxComputed : (s.setFrame v l f).rxComputed = s.rxComputed := rfl
@[simp] theorem setFrame_mem : (s.setFrame v l f).mem = s.mem := rfl
@[simp] theorem setFrame_resets : (s.setFrame v l f).resets = s.resets := rfl
@[simp] theorem setFrame_pending : (s.setFrame v l f).pending = s.pending := rfl
@[simp] theorem setFrame_readData : (s.setFrame v l f).readData = s.readData := rfl
end setFrame_fields

section setFlags_fields
variable (s : State) (n e : Bool)
@[simp] theorem setFlags_slave : (s.setFlags n e).slave = s.slave := rfl
@[simp] theorem setFlags_startReg : (s.setFlags n e).startReg = s.startReg := rfl
@[simp] theorem setFlags_count : (s.setFlags n e).count = s.count := rfl
@[simp] theorem setFlags_byteCount : (s.setFlags n e).byteCount = s.byteCount := rfl
@[simp] theorem setFlags_dataLen : (s.setFlags n e).dataLen = s.dataLen := rfl
@[simp] theorem setFlags_crc : (s.setFlags n e).crc = s.crc := rfl
@[simp] theorem setFlags_code : (s.setFlags n e).code = s.code := rfl
@[simp] theorem setFlags_nulSkipped : (s.setFlags n e).nulSkipped = n := rfl
@[simp] theorem setFlags_echoShort : (s.setFlags n e).echoShort = e := rfl
@[simp] theorem setFlags_frameValid : (s.setFlags n e).frameValid = s.frameValid := rfl
@[simp] theorem setFlags_txLen : (s.setFlags n e).txLen = s.txLen := rfl
@[simp] theorem setFlags_frameFc : (s.setFlags n e).frameFc = s.frameFc := rfl
@[simp] theorem setFlags_rxLen : (s.setFlags n e).rxLen = s.rxLen := rfl
@[simp] theorem setFlags_respOff : (s.setFlags n e).respOff = s.respOff := rfl
@[simp] theorem setFlags_respLen : (s.setFlags n e).respLen = s.respLen := rfl
@[simp] theorem setFlags_payloadOff : (s.setFlags n e).payloadOff = s.payloadOff := rfl
@[simp] theorem setFlags_payloadLen : (s.setFlags n e).payloadLen = s.payloadLen := rfl
@[simp] theorem setFlags_rxReceived : (s.setFlags n e).rxReceived = s.rxReceived := rfl
@[simp] theorem setFlags_rxComputed : (s.setFlags n e).rxComputed = s.rxComputed := rfl
@[simp] theorem setFlags_mem : (s.setFlags n e).mem = s.mem := rfl
@[simp] theorem setFlags_resets : (s.setFlags n e).resets = s.resets := rfl
@[simp] theorem setFlags_pending : (s.setFlags n e).pending = s.pending := rfl
@[simp] theorem setFlags_readData : (s.setFlags n e).readData = s.readData := rfl
end setFlags_fields

section setCandidate_fields
variable (s : State) (o l : BitVec 11)
@[simp] theorem setCandidate_slave : (s.setCandidate o l).slave = s.slave := rfl
@[simp] theorem setCandidate_startReg : (s.setCandidate o l).startReg = s.startReg := rfl
@[simp] theorem setCandidate_count : (s.setCandidate o l).count = s.count := rfl
@[simp] theorem setCandidate_byteCount : (s.setCandidate o l).byteCount = s.byteCount := rfl
@[simp] theorem setCandidate_dataLen : (s.setCandidate o l).dataLen = s.dataLen := rfl
@[simp] theorem setCandidate_crc : (s.setCandidate o l).crc = s.crc := rfl
@[simp] theorem setCandidate_code : (s.setCandidate o l).code = s.code := rfl
@[simp] theorem setCandidate_nulSkipped : (s.setCandidate o l).nulSkipped = s.nulSkipped := rfl
@[simp] theorem setCandidate_echoShort : (s.setCandidate o l).echoShort = s.echoShort := rfl
@[simp] theorem setCandidate_frameValid : (s.setCandidate o l).frameValid = s.frameValid := rfl
@[simp] theorem setCandidate_txLen : (s.setCandidate o l).txLen = s.txLen := rfl
@[simp] theorem setCandidate_frameFc : (s.setCandidate o l).frameFc = s.frameFc := rfl
@[simp] theorem setCandidate_rxLen : (s.setCandidate o l).rxLen = s.rxLen := rfl
@[simp] theorem setCandidate_respOff : (s.setCandidate o l).respOff = o := rfl
@[simp] theorem setCandidate_respLen : (s.setCandidate o l).respLen = l := rfl
@[simp] theorem setCandidate_payloadOff : (s.setCandidate o l).payloadOff = s.payloadOff := rfl
@[simp] theorem setCandidate_payloadLen : (s.setCandidate o l).payloadLen = s.payloadLen := rfl
@[simp] theorem setCandidate_rxReceived : (s.setCandidate o l).rxReceived = s.rxReceived := rfl
@[simp] theorem setCandidate_rxComputed : (s.setCandidate o l).rxComputed = s.rxComputed := rfl
@[simp] theorem setCandidate_mem : (s.setCandidate o l).mem = s.mem := rfl
@[simp] theorem setCandidate_resets : (s.setCandidate o l).resets = s.resets := rfl
@[simp] theorem setCandidate_pending : (s.setCandidate o l).pending = s.pending := rfl
@[simp] theorem setCandidate_readData : (s.setCandidate o l).readData = s.readData := rfl
end setCandidate_fields

section setPayload_fields
variable (s : State) (o : BitVec 11) (l : Byte)
@[simp] theorem setPayload_slave : (s.setPayload o l).slave = s.slave := rfl
@[simp] theorem setPayload_startReg : (s.setPayload o l).startReg = s.startReg := rfl
@[simp] theorem setPayload_count : (s.setPayload o l).count = s.count := rfl
@[simp] theorem setPayload_byteCount : (s.setPayload o l).byteCount = s.byteCount := rfl
@[simp] theorem setPayload_dataLen : (s.setPayload o l).dataLen = s.dataLen := rfl
@[simp] theorem setPayload_crc : (s.setPayload o l).crc = s.crc := rfl
@[simp] theorem setPayload_code : (s.setPayload o l).code = s.code := rfl
@[simp] theorem setPayload_nulSkipped : (s.setPayload o l).nulSkipped = s.nulSkipped := rfl
@[simp] theorem setPayload_echoShort : (s.setPayload o l).echoShort = s.echoShort := rfl
@[simp] theorem setPayload_frameValid : (s.setPayload o l).frameValid = s.frameValid := rfl
@[simp] theorem setPayload_txLen : (s.setPayload o l).txLen = s.txLen := rfl
@[simp] theorem setPayload_frameFc : (s.setPayload o l).frameFc = s.frameFc := rfl
@[simp] theorem setPayload_rxLen : (s.setPayload o l).rxLen = s.rxLen := rfl
@[simp] theorem setPayload_respOff : (s.setPayload o l).respOff = s.respOff := rfl
@[simp] theorem setPayload_respLen : (s.setPayload o l).respLen = s.respLen := rfl
@[simp] theorem setPayload_payloadOff : (s.setPayload o l).payloadOff = o := rfl
@[simp] theorem setPayload_payloadLen : (s.setPayload o l).payloadLen = l := rfl
@[simp] theorem setPayload_rxReceived : (s.setPayload o l).rxReceived = s.rxReceived := rfl
@[simp] theorem setPayload_rxComputed : (s.setPayload o l).rxComputed = s.rxComputed := rfl
@[simp] theorem setPayload_mem : (s.setPayload o l).mem = s.mem := rfl
@[simp] theorem setPayload_resets : (s.setPayload o l).resets = s.resets := rfl
@[simp] theorem setPayload_pending : (s.setPayload o l).pending = s.pending := rfl
@[simp] theorem setPayload_readData : (s.setPayload o l).readData = s.readData := rfl
end setPayload_fields

section setRxCrc_fields
variable (s : State) (r c : Half)
@[simp] theorem setRxCrc_slave : (s.setRxCrc r c).slave = s.slave := rfl
@[simp] theorem setRxCrc_startReg : (s.setRxCrc r c).startReg = s.startReg := rfl
@[simp] theorem setRxCrc_count : (s.setRxCrc r c).count = s.count := rfl
@[simp] theorem setRxCrc_byteCount : (s.setRxCrc r c).byteCount = s.byteCount := rfl
@[simp] theorem setRxCrc_dataLen : (s.setRxCrc r c).dataLen = s.dataLen := rfl
@[simp] theorem setRxCrc_crc : (s.setRxCrc r c).crc = s.crc := rfl
@[simp] theorem setRxCrc_code : (s.setRxCrc r c).code = s.code := rfl
@[simp] theorem setRxCrc_nulSkipped : (s.setRxCrc r c).nulSkipped = s.nulSkipped := rfl
@[simp] theorem setRxCrc_echoShort : (s.setRxCrc r c).echoShort = s.echoShort := rfl
@[simp] theorem setRxCrc_frameValid : (s.setRxCrc r c).frameValid = s.frameValid := rfl
@[simp] theorem setRxCrc_txLen : (s.setRxCrc r c).txLen = s.txLen := rfl
@[simp] theorem setRxCrc_frameFc : (s.setRxCrc r c).frameFc = s.frameFc := rfl
@[simp] theorem setRxCrc_rxLen : (s.setRxCrc r c).rxLen = s.rxLen := rfl
@[simp] theorem setRxCrc_respOff : (s.setRxCrc r c).respOff = s.respOff := rfl
@[simp] theorem setRxCrc_respLen : (s.setRxCrc r c).respLen = s.respLen := rfl
@[simp] theorem setRxCrc_payloadOff : (s.setRxCrc r c).payloadOff = s.payloadOff := rfl
@[simp] theorem setRxCrc_payloadLen : (s.setRxCrc r c).payloadLen = s.payloadLen := rfl
@[simp] theorem setRxCrc_rxReceived : (s.setRxCrc r c).rxReceived = r := rfl
@[simp] theorem setRxCrc_rxComputed : (s.setRxCrc r c).rxComputed = c := rfl
@[simp] theorem setRxCrc_mem : (s.setRxCrc r c).mem = s.mem := rfl
@[simp] theorem setRxCrc_resets : (s.setRxCrc r c).resets = s.resets := rfl
@[simp] theorem setRxCrc_pending : (s.setRxCrc r c).pending = s.pending := rfl
@[simp] theorem setRxCrc_readData : (s.setRxCrc r c).readData = s.readData := rfl
end setRxCrc_fields

section setPending_fields
variable (s : State) (es : List HostEvent)
@[simp] theorem setPending_slave : (s.setPending es).slave = s.slave := rfl
@[simp] theorem setPending_startReg : (s.setPending es).startReg = s.startReg := rfl
@[simp] theorem setPending_count : (s.setPending es).count = s.count := rfl
@[simp] theorem setPending_byteCount : (s.setPending es).byteCount = s.byteCount := rfl
@[simp] theorem setPending_dataLen : (s.setPending es).dataLen = s.dataLen := rfl
@[simp] theorem setPending_crc : (s.setPending es).crc = s.crc := rfl
@[simp] theorem setPending_code : (s.setPending es).code = s.code := rfl
@[simp] theorem setPending_nulSkipped : (s.setPending es).nulSkipped = s.nulSkipped := rfl
@[simp] theorem setPending_echoShort : (s.setPending es).echoShort = s.echoShort := rfl
@[simp] theorem setPending_frameValid : (s.setPending es).frameValid = s.frameValid := rfl
@[simp] theorem setPending_txLen : (s.setPending es).txLen = s.txLen := rfl
@[simp] theorem setPending_frameFc : (s.setPending es).frameFc = s.frameFc := rfl
@[simp] theorem setPending_rxLen : (s.setPending es).rxLen = s.rxLen := rfl
@[simp] theorem setPending_respOff : (s.setPending es).respOff = s.respOff := rfl
@[simp] theorem setPending_respLen : (s.setPending es).respLen = s.respLen := rfl
@[simp] theorem setPending_payloadOff : (s.setPending es).payloadOff = s.payloadOff := rfl
@[simp] theorem setPending_payloadLen : (s.setPending es).payloadLen = s.payloadLen := rfl
@[simp] theorem setPending_rxReceived : (s.setPending es).rxReceived = s.rxReceived := rfl
@[simp] theorem setPending_rxComputed : (s.setPending es).rxComputed = s.rxComputed := rfl
@[simp] theorem setPending_mem : (s.setPending es).mem = s.mem := rfl
@[simp] theorem setPending_resets : (s.setPending es).resets = s.resets := rfl
@[simp] theorem setPending_pending : (s.setPending es).pending = es := rfl
@[simp] theorem setPending_readData : (s.setPending es).readData = s.readData := rfl
end setPending_fields

section setReadData_fields
variable (s : State) (w : Word)
@[simp] theorem setReadData_slave : (s.setReadData w).slave = s.slave := rfl
@[simp] theorem setReadData_startReg : (s.setReadData w).startReg = s.startReg := rfl
@[simp] theorem setReadData_count : (s.setReadData w).count = s.count := rfl
@[simp] theorem setReadData_byteCount : (s.setReadData w).byteCount = s.byteCount := rfl
@[simp] theorem setReadData_dataLen : (s.setReadData w).dataLen = s.dataLen := rfl
@[simp] theorem setReadData_crc : (s.setReadData w).crc = s.crc := rfl
@[simp] theorem setReadData_code : (s.setReadData w).code = s.code := rfl
@[simp] theorem setReadData_nulSkipped : (s.setReadData w).nulSkipped = s.nulSkipped := rfl
@[simp] theorem setReadData_echoShort : (s.setReadData w).echoShort = s.echoShort := rfl
@[simp] theorem setReadData_frameValid : (s.setReadData w).frameValid = s.frameValid := rfl
@[simp] theorem setReadData_txLen : (s.setReadData w).txLen = s.txLen := rfl
@[simp] theorem setReadData_frameFc : (s.setReadData w).frameFc = s.frameFc := rfl
@[simp] theorem setReadData_rxLen : (s.setReadData w).rxLen = s.rxLen := rfl
@[simp] theorem setReadData_respOff : (s.setReadData w).respOff = s.respOff := rfl
@[simp] theorem setReadData_respLen : (s.setReadData w).respLen = s.respLen := rfl
@[simp] theorem setReadData_payloadOff : (s.setReadData w).payloadOff = s.payloadOff := rfl
@[simp] theorem setReadData_payloadLen : (s.setReadData w).payloadLen = s.payloadLen := rfl
@[simp] theorem setReadData_rxReceived : (s.setReadData w).rxReceived = s.rxReceived := rfl
@[simp] theorem setReadData_rxComputed : (s.setReadData w).rxComputed = s.rxComputed := rfl
@[simp] theorem setReadData_mem : (s.setReadData w).mem = s.mem := rfl
@[simp] theorem setReadData_resets : (s.setReadData w).resets = s.resets := rfl
@[simp] theorem setReadData_pending : (s.setReadData w).pending = s.pending := rfl
@[simp] theorem setReadData_readData : (s.setReadData w).readData = some w := rfl
end setReadData_fields

section platformReset_fields
variable (s : State)
@[simp] theorem platformReset_slave : s.platformReset.slave = 0 := rfl
@[simp] theorem platformReset_startReg : s.platformReset.startReg = 0 := rfl
@[simp] theorem platformReset_count : s.platformReset.count = 0 := rfl
@[simp] theorem platformReset_byteCount : s.platformReset.byteCount = 0 := rfl
@[simp] theorem platformReset_dataLen : s.platformReset.dataLen = 0 := rfl
@[simp] theorem platformReset_crc : s.platformReset.crc = Config.crcInit := rfl
@[simp] theorem platformReset_code : s.platformReset.code = .none := rfl
@[simp] theorem platformReset_nulSkipped : s.platformReset.nulSkipped = false := rfl
@[simp] theorem platformReset_echoShort : s.platformReset.echoShort = false := rfl
@[simp] theorem platformReset_frameValid : s.platformReset.frameValid = false := rfl
@[simp] theorem platformReset_txLen : s.platformReset.txLen = 0 := rfl
@[simp] theorem platformReset_frameFc : s.platformReset.frameFc = 0 := rfl
@[simp] theorem platformReset_rxLen : s.platformReset.rxLen = 0 := rfl
@[simp] theorem platformReset_respOff : s.platformReset.respOff = 0 := rfl
@[simp] theorem platformReset_respLen : s.platformReset.respLen = 0 := rfl
@[simp] theorem platformReset_payloadOff : s.platformReset.payloadOff = 0 := rfl
@[simp] theorem platformReset_payloadLen : s.platformReset.payloadLen = 0 := rfl
@[simp] theorem platformReset_rxReceived : s.platformReset.rxReceived = 0 := rfl
@[simp] theorem platformReset_rxComputed : s.platformReset.rxComputed = 0 := rfl
@[simp] theorem platformReset_mem : s.platformReset.mem = [] := rfl
@[simp] theorem platformReset_resets : s.platformReset.resets = s.resets + 1 := rfl
@[simp] theorem platformReset_pending : s.platformReset.pending = s.pending := rfl
@[simp] theorem platformReset_readData : s.platformReset.readData = s.readData := rfl
end platformReset_fields

/-! ### How a buffer byte reads after an update -/

section bytes
variable (s : State) (a : Nat)
@[simp] theorem byte_report (c : StatusCode) : (s.report c).byte a = s.byte a := rfl
@[simp] theorem byte_setCrc (c : Half) : (s.setCrc c).byte a = s.byte a := rfl
@[simp] theorem byte_setFrame (v : Bool) (l : BitVec 9) (f : Byte) : (s.setFrame v l f).byte a = s.byte a := rfl
@[simp] theorem byte_setFlags (n e : Bool) : (s.setFlags n e).byte a = s.byte a := rfl
@[simp] theorem byte_setCandidate (o l : BitVec 11) : (s.setCandidate o l).byte a = s.byte a := rfl
@[simp] theorem byte_setPayload (o : BitVec 11) (l : Byte) : (s.setPayload o l).byte a = s.byte a := rfl
@[simp] theorem byte_setRxCrc (r c : Half) : (s.setRxCrc r c).byte a = s.byte a := rfl
@[simp] theorem byte_setPending (es : List HostEvent) : (s.setPending es).byte a = s.byte a := rfl
@[simp] theorem byte_setReadData (w : Word) : (s.setReadData w).byte a = s.byte a := rfl

/-- `bytes` depends only on the bytes it reads. -/
theorem bytes_congr {s t : State} : ∀ (n : Nat) {a : Nat},
    (∀ x, a ≤ x → x < a + n → t.byte x = s.byte x) → t.bytes a n = s.bytes a n
  | 0, _, _ => rfl
  | n + 1, a, h => by
    simp only [State.bytes]
    rw [h a (le_refl a) (by omega), bytes_congr n (fun x h1 h2 => h x (by omega) (by omega))]

theorem length_bytes : ∀ (n a : Nat), (s.bytes a n).length = n
  | 0, _ => rfl
  | n + 1, a => by simp only [State.bytes, List.length_cons, length_bytes n]

theorem getElem?_bytes : ∀ (n a i : Nat), i < n → (s.bytes a n)[i]? = some (s.byte (a + i))
  | n + 1, a, 0, _ => by simp [State.bytes]
  | n + 1, a, i + 1, h => by
    simp only [State.bytes, List.getElem?_cons_succ]
    rw [getElem?_bytes n (a + 1) i (by omega), show a + 1 + i = a + (i + 1) by omega]

theorem bytes_add : ∀ (n m a : Nat), s.bytes a (n + m) = s.bytes a n ++ s.bytes (a + n) m
  | 0, m, a => by simp [State.bytes]
  | n + 1, m, a => by
    rw [show n + 1 + m = (n + m) + 1 by omega]
    simp only [State.bytes, List.cons_append, bytes_add n m]
    rw [show a + 1 + n = a + (n + 1) by omega]
end bytes

end Sys2Proof.Machine.State
end

