-- ==== Sys2Proof/Laws/Memory.lean ====
section
/-! SUPPORT. The laws of the buffer memory (Machine/Ops.lean): a read after a write, and the canonical form. -/

namespace Sys2Proof.Machine.Memory

/-! ### Reading after writing -/

theorem read_write_same (m : Memory) (a : Nat) (v : Byte) : (m.write a v).read a = some v := by
  induction m with
  | nil => simp [Memory.write, Memory.read]
  | cons c m ih =>
    simp only [Memory.write]
    split
    · simp [Memory.read]
    · split
      · simp [Memory.read]
      · next h1 h2 => simp [Memory.read, Ne.symm h2, ih]

theorem read_write_other (m : Memory) {a x : Nat} (v : Byte) (h : x ≠ a) :
    (m.write a v).read x = m.read x := by
  induction m with
  | nil => simp [Memory.write, Memory.read, Ne.symm h]
  | cons c m ih =>
    simp only [Memory.write]
    split
    · simp [Memory.read, Ne.symm h]
    · split
      · next h1 h2 => simp [Memory.read, ← h2, Ne.symm h]
      · simp [Memory.read, ih]

theorem read_writeBytes (m : Memory) (bs : List Byte) (a x : Nat) :
    (m.writeBytes a bs).read x =
      if a ≤ x ∧ x < a + bs.length then bs[x - a]? else m.read x := by
  induction bs generalizing m a with
  | nil => simp only [Memory.writeBytes, List.length_nil]; rw [if_neg (by omega)]
  | cons b bs ih =>
    simp only [Memory.writeBytes, ih, List.length_cons]
    by_cases h : x = a
    · subst h
      rw [if_neg (by omega), if_pos (by omega), Nat.sub_self, read_write_same]
      rfl
    · rw [read_write_other _ _ h]
      by_cases h2 : a ≤ x ∧ x < a + (bs.length + 1)
      · rw [if_pos (by omega), if_pos h2, show x - a = (x - (a + 1)) + 1 by omega]
        rfl
      · rw [if_neg (by omega), if_neg h2]

/-! ### Writing the same bytes again -/

/-- Offsets below `x` are passed over by a write at `x`. -/
theorem write_append (p q : Memory) {x : Nat} (v : Byte) (h : ∀ c ∈ p, c.1 < x) :
    Memory.write (p ++ q) x v = p ++ Memory.write q x v := by
  induction p with
  | nil => rfl
  | cons c p ih =>
    have hc := h c List.mem_cons_self
    simp only [List.cons_append, Memory.write]
    rw [if_neg (by omega), if_neg (by omega), ih (fun d hd => h d (List.mem_cons_of_mem _ hd))]

theorem writeBytes_append (p q : Memory) {x : Nat} (bs : List Byte) (h : ∀ c ∈ p, c.1 < x) :
    Memory.writeBytes (p ++ q) x bs = p ++ Memory.writeBytes q x bs := by
  induction bs generalizing q x with
  | nil => rfl
  | cons b bs ih =>
    simp only [Memory.writeBytes, write_append p q b h]
    exact ih _ (fun c hc => Nat.lt_succ_of_lt (h c hc))

/-- Where a write puts its byte: after the offsets below it. -/
theorem write_split (m : Memory) (a : Nat) :
    ∃ p r : Memory, (∀ c ∈ p, c.1 < a) ∧ ∀ v, m.write a v = p ++ (a, v) :: r := by
  induction m with
  | nil => exact ⟨[], [], by simp, fun v => rfl⟩
  | cons c m ih =>
    by_cases h1 : a < c.1
    · exact ⟨[], c :: m, by simp, fun v => by simp [Memory.write, h1]⟩
    · by_cases h2 : a = c.1
      · exact ⟨[], m, by simp, fun v => by simp [Memory.write, ← h2]⟩
      · obtain ⟨p, r, hp, hw⟩ := ih
        refine ⟨c :: p, r, ?_, fun v => by simp [Memory.write, h1, h2, hw]⟩
        intro d hd
        rcases List.mem_cons.mp hd with rfl | hd
        · omega
        · exact hp d hd

/-- Writing the same bytes twice leaves the memory of writing them once. -/
theorem writeBytes_twice (m : Memory) (a : Nat) (bs : List Byte) :
    (m.writeBytes a bs).writeBytes a bs = m.writeBytes a bs := by
  induction bs generalizing m a with
  | nil => rfl
  | cons b bs ih =>
    obtain ⟨p, r, hp, hw⟩ := write_split m a
    have hp' : ∀ c ∈ p ++ [(a, b)], c.1 < a + 1 := by
      intro c hc
      rcases List.mem_append.mp hc with hc | hc
      · exact Nat.lt_succ_of_lt (hp c hc)
      · simp only [List.mem_singleton] at hc
        subst hc
        exact Nat.lt_succ_self a
    have h1 : Memory.writeBytes m a (b :: bs) = (p ++ [(a, b)]) ++ Memory.writeBytes r (a + 1) bs := by
      simp only [Memory.writeBytes, hw]
      rw [show p ++ (a, b) :: r = (p ++ [(a, b)]) ++ r by simp, writeBytes_append _ _ _ hp']
    have h2 : Memory.write ((p ++ [(a, b)]) ++ Memory.writeBytes r (a + 1) bs) a b =
        (p ++ [(a, b)]) ++ Memory.writeBytes r (a + 1) bs := by
      rw [List.append_assoc, write_append p _ b hp]
      simp [Memory.write]
    rw [h1]
    show Memory.writeBytes (Memory.write _ a b) (a + 1) bs = _
    rw [h2, writeBytes_append _ _ _ hp', ih]

/-! ### The canonical form -/

theorem above_trans {a b : Nat} (h : b ≤ a) (m : Memory) (hm : Memory.above a m = true) :
    Memory.above b m = true := by
  induction m with
  | nil => rfl
  | cons c m ih =>
    simp only [Memory.above, Bool.and_eq_true, decide_eq_true_eq] at hm ⊢
    exact ⟨by omega, ih hm.2⟩

theorem above_write {b a : Nat} (h : b < a) (v : Byte) (m : Memory) (hm : Memory.above b m = true) :
    Memory.above b (m.write a v) = true := by
  induction m with
  | nil => simp [Memory.write, Memory.above, h]
  | cons c m ih =>
    simp only [Memory.above, Bool.and_eq_true, decide_eq_true_eq] at hm
    simp only [Memory.write]
    split
    · simp [Memory.above, h, hm.1, hm.2]
    · split
      · simp [Memory.above, h, hm.2]
      · simp [Memory.above, hm.1, ih hm.2]

/-- A write to a buffer byte keeps the canonical form. -/
theorem wf_write {a : Nat} (ha : isBufferByte a = true) (v : Byte) (m : Memory) (hm : Memory.wf m = true) :
    Memory.wf (m.write a v) = true := by
  induction m with
  | nil => simp [Memory.write, Memory.wf, Memory.above, ha]
  | cons c m ih =>
    simp only [Memory.wf, Bool.and_eq_true] at hm
    obtain ⟨⟨hc, hab⟩, hw⟩ := hm
    simp only [Memory.write]
    split
    · next h =>
      simp [Memory.wf, Memory.above, ha, hc, hab, hw, h, above_trans (Nat.le_of_lt h) m hab]
    · split
      · next h1 h2 => subst h2; simp [Memory.wf, ha, hab, hw]
      · next h1 h2 => simp [Memory.wf, hc, ih hw, above_write (show c.1 < a by omega) v m hab]

/-- A write of bytes that all fall on buffer bytes keeps the canonical form. -/
theorem wf_writeBytes (bs : List Byte) {a : Nat} (m : Memory)
    (ha : ∀ x, a ≤ x → x < a + bs.length → isBufferByte x = true) (hm : Memory.wf m = true) :
    Memory.wf (m.writeBytes a bs) = true := by
  induction bs generalizing m a with
  | nil => exact hm
  | cons b bs ih =>
    simp only [List.length_cons] at ha
    exact ih _ (fun x h1 h2 => ha x (by omega) (by omega)) (wf_write (ha a (by omega) (by omega)) b m hm)

/-- An offset at or below the bound of `above` is not listed. -/
theorem read_of_above {a x : Nat} (h : x ≤ a) (m : Memory) (hm : Memory.above a m = true) :
    m.read x = Option.none := by
  induction m with
  | nil => rfl
  | cons c m ih =>
    simp only [Memory.above, Bool.and_eq_true, decide_eq_true_eq] at hm
    simp [Memory.read, show c.1 ≠ x by omega, ih hm.2]

end Sys2Proof.Machine.Memory

namespace Sys2Proof.Machine.State

/-! ### The buffers' bytes after a write -/

theorem byte_setMem_writeBytes (s : State) (a : Nat) (bs : List Byte) (x : Nat) :
    (s.setMem (s.mem.writeBytes a bs)).byte x =
      if a ≤ x ∧ x < a + bs.length then bs.getD (x - a) 0 else s.byte x := by
  simp only [State.byte, State.setMem_mem, State.setMem_resets, Memory.read_writeBytes]
  by_cases h : a ≤ x ∧ x < a + bs.length
  · simp [if_pos h, List.getElem?_eq_getElem (show x - a < bs.length by omega), List.getD]
  · simp only [if_neg h]

/-- Reading back the bytes just written. -/
theorem bytes_setMem_writeBytes (s : State) (a : Nat) (bs : List Byte) :
    (s.setMem (s.mem.writeBytes a bs)).bytes a bs.length = bs := by
  apply List.ext_getElem?
  intro i
  by_cases h : i < bs.length
  · rw [getElem?_bytes _ _ _ _ h, byte_setMem_writeBytes, if_pos (by omega), Nat.add_sub_cancel_left]
    simp [List.getD, List.getElem?_eq_getElem h]
  · rw [List.getElem?_eq_none (by rw [length_bytes]; omega), List.getElem?_eq_none (by omega)]

end Sys2Proof.Machine.State
end

