-- ==== Sys2Proof/Laws/Ops.lean ====
section
/-! SUPPORT. What the shared operations and the meanings do, said once: `emit`, `PARSE`'s outcomes, and the arm of each
command. Later proofs cite these and unfold no meaning. -/

namespace Sys2Proof.Machine

/-! ### The fields after the shared effects

One lemma for each field: a proof cites these and never lets Lean unfold the write of a whole frame. -/

section emit_fields
variable (fc : Byte) (body : List Byte) (s : State)
@[simp] theorem emit_slave : (emit fc body s).slave = s.slave := rfl
@[simp] theorem emit_startReg : (emit fc body s).startReg = s.startReg := rfl
@[simp] theorem emit_count : (emit fc body s).count = s.count := rfl
@[simp] theorem emit_byteCount : (emit fc body s).byteCount = s.byteCount := rfl
@[simp] theorem emit_dataLen : (emit fc body s).dataLen = s.dataLen := rfl
@[simp] theorem emit_crc : (emit fc body s).crc = crc16 Config.crcInit (s.slave :: fc :: body) := rfl
@[simp] theorem emit_code : (emit fc body s).code = .ok := rfl
@[simp] theorem emit_nulSkipped : (emit fc body s).nulSkipped = s.nulSkipped := rfl
@[simp] theorem emit_echoShort : (emit fc body s).echoShort = s.echoShort := rfl
@[simp] theorem emit_frameValid : (emit fc body s).frameValid = true := rfl
@[simp] theorem emit_txLen : (emit fc body s).txLen = BitVec.ofNat 9 ((s.slave :: fc :: body) ++ crcBytes (crc16 Config.crcInit (s.slave :: fc :: body))).length := rfl
@[simp] theorem emit_frameFc : (emit fc body s).frameFc = fc := rfl
@[simp] theorem emit_rxLen : (emit fc body s).rxLen = s.rxLen := rfl
@[simp] theorem emit_respOff : (emit fc body s).respOff = s.respOff := rfl
@[simp] theorem emit_respLen : (emit fc body s).respLen = s.respLen := rfl
@[simp] theorem emit_payloadOff : (emit fc body s).payloadOff = s.payloadOff := rfl
@[simp] theorem emit_payloadLen : (emit fc body s).payloadLen = s.payloadLen := rfl
@[simp] theorem emit_rxReceived : (emit fc body s).rxReceived = s.rxReceived := rfl
@[simp] theorem emit_rxComputed : (emit fc body s).rxComputed = s.rxComputed := rfl
@[simp] theorem emit_mem : (emit fc body s).mem = s.mem.writeBytes txBase ((s.slave :: fc :: body) ++ crcBytes (crc16 Config.crcInit (s.slave :: fc :: body))) := rfl
@[simp] theorem emit_resets : (emit fc body s).resets = s.resets := rfl
@[simp] theorem emit_pending : (emit fc body s).pending = s.pending := rfl
@[simp] theorem emit_readData : (emit fc body s).readData = s.readData := rfl
end emit_fields

section buildFail_fields
variable (s : State)
@[simp] theorem buildFail_slave : (buildFail s).slave = s.slave := rfl
@[simp] theorem buildFail_startReg : (buildFail s).startReg = s.startReg := rfl
@[simp] theorem buildFail_count : (buildFail s).count = s.count := rfl
@[simp] theorem buildFail_byteCount : (buildFail s).byteCount = s.byteCount := rfl
@[simp] theorem buildFail_dataLen : (buildFail s).dataLen = s.dataLen := rfl
@[simp] theorem buildFail_crc : (buildFail s).crc = s.crc := rfl
@[simp] theorem buildFail_code : (buildFail s).code = .paramError := rfl
@[simp] theorem buildFail_nulSkipped : (buildFail s).nulSkipped = s.nulSkipped := rfl
@[simp] theorem buildFail_echoShort : (buildFail s).echoShort = s.echoShort := rfl
@[simp] theorem buildFail_frameValid : (buildFail s).frameValid = false := rfl
@[simp] theorem buildFail_txLen : (buildFail s).txLen = 0 := rfl
@[simp] theorem buildFail_frameFc : (buildFail s).frameFc = 0 := rfl
@[simp] theorem buildFail_rxLen : (buildFail s).rxLen = s.rxLen := rfl
@[simp] theorem buildFail_respOff : (buildFail s).respOff = s.respOff := rfl
@[simp] theorem buildFail_respLen : (buildFail s).respLen = s.respLen := rfl
@[simp] theorem buildFail_payloadOff : (buildFail s).payloadOff = s.payloadOff := rfl
@[simp] theorem buildFail_payloadLen : (buildFail s).payloadLen = s.payloadLen := rfl
@[simp] theorem buildFail_rxReceived : (buildFail s).rxReceived = s.rxReceived := rfl
@[simp] theorem buildFail_rxComputed : (buildFail s).rxComputed = s.rxComputed := rfl
@[simp] theorem buildFail_mem : (buildFail s).mem = s.mem := rfl
@[simp] theorem buildFail_resets : (buildFail s).resets = s.resets := rfl
@[simp] theorem buildFail_pending : (buildFail s).pending = s.pending := rfl
@[simp] theorem buildFail_readData : (buildFail s).readData = s.readData := rfl
end buildFail_fields

section parseAbort_fields
variable (c : StatusCode) (s : State)
@[simp] theorem parseAbort_slave : (parseAbort c s).slave = s.slave := rfl
@[simp] theorem parseAbort_startReg : (parseAbort c s).startReg = s.startReg := rfl
@[simp] theorem parseAbort_count : (parseAbort c s).count = s.count := rfl
@[simp] theorem parseAbort_byteCount : (parseAbort c s).byteCount = s.byteCount := rfl
@[simp] theorem parseAbort_dataLen : (parseAbort c s).dataLen = s.dataLen := rfl
@[simp] theorem parseAbort_crc : (parseAbort c s).crc = s.crc := rfl
@[simp] theorem parseAbort_code : (parseAbort c s).code = c := rfl
@[simp] theorem parseAbort_nulSkipped : (parseAbort c s).nulSkipped = false := rfl
@[simp] theorem parseAbort_echoShort : (parseAbort c s).echoShort = false := rfl
@[simp] theorem parseAbort_frameValid : (parseAbort c s).frameValid = s.frameValid := rfl
@[simp] theorem parseAbort_txLen : (parseAbort c s).txLen = s.txLen := rfl
@[simp] theorem parseAbort_frameFc : (parseAbort c s).frameFc = s.frameFc := rfl
@[simp] theorem parseAbort_rxLen : (parseAbort c s).rxLen = s.rxLen := rfl
@[simp] theorem parseAbort_respOff : (parseAbort c s).respOff = 0 := rfl
@[simp] theorem parseAbort_respLen : (parseAbort c s).respLen = 0 := rfl
@[simp] theorem parseAbort_payloadOff : (parseAbort c s).payloadOff = 0 := rfl
@[simp] theorem parseAbort_payloadLen : (parseAbort c s).payloadLen = 0 := rfl
@[simp] theorem parseAbort_rxReceived : (parseAbort c s).rxReceived = 0 := rfl
@[simp] theorem parseAbort_rxComputed : (parseAbort c s).rxComputed = 0 := rfl
@[simp] theorem parseAbort_mem : (parseAbort c s).mem = s.mem := rfl
@[simp] theorem parseAbort_resets : (parseAbort c s).resets = s.resets := rfl
@[simp] theorem parseAbort_pending : (parseAbort c s).pending = s.pending := rfl
@[simp] theorem parseAbort_readData : (parseAbort c s).readData = s.readData := rfl
end parseAbort_fields

section locateCandidate_fields
variable (s : State)
@[simp] theorem locateCandidate_slave : (locateCandidate s).slave = s.slave := rfl
@[simp] theorem locateCandidate_startReg : (locateCandidate s).startReg = s.startReg := rfl
@[simp] theorem locateCandidate_count : (locateCandidate s).count = s.count := rfl
@[simp] theorem locateCandidate_byteCount : (locateCandidate s).byteCount = s.byteCount := rfl
@[simp] theorem locateCandidate_dataLen : (locateCandidate s).dataLen = s.dataLen := rfl
@[simp] theorem locateCandidate_crc : (locateCandidate s).crc = s.crc := rfl
@[simp] theorem locateCandidate_code : (locateCandidate s).code = s.code := rfl
@[simp] theorem locateCandidate_nulSkipped : (locateCandidate s).nulSkipped = nulFollows s := rfl
@[simp] theorem locateCandidate_echoShort : (locateCandidate s).echoShort = echoIsShort s := rfl
@[simp] theorem locateCandidate_frameValid : (locateCandidate s).frameValid = s.frameValid := rfl
@[simp] theorem locateCandidate_txLen : (locateCandidate s).txLen = s.txLen := rfl
@[simp] theorem locateCandidate_frameFc : (locateCandidate s).frameFc = s.frameFc := rfl
@[simp] theorem locateCandidate_rxLen : (locateCandidate s).rxLen = s.rxLen := rfl
@[simp] theorem locateCandidate_respOff : (locateCandidate s).respOff = BitVec.ofNat 11 (candidateOff s) := rfl
@[simp] theorem locateCandidate_respLen : (locateCandidate s).respLen = BitVec.ofNat 11 (candidateLen s) := rfl
@[simp] theorem locateCandidate_payloadOff : (locateCandidate s).payloadOff = 0 := rfl
@[simp] theorem locateCandidate_payloadLen : (locateCandidate s).payloadLen = 0 := rfl
@[simp] theorem locateCandidate_rxReceived : (locateCandidate s).rxReceived = 0 := rfl
@[simp] theorem locateCandidate_rxComputed : (locateCandidate s).rxComputed = 0 := rfl
@[simp] theorem locateCandidate_mem : (locateCandidate s).mem = s.mem := rfl
@[simp] theorem locateCandidate_resets : (locateCandidate s).resets = s.resets := rfl
@[simp] theorem locateCandidate_pending : (locateCandidate s).pending = s.pending := rfl
@[simp] theorem locateCandidate_readData : (locateCandidate s).readData = s.readData := rfl
end locateCandidate_fields

section recordCrc_fields
variable (u s : State)
@[simp] theorem recordCrc_slave : (recordCrc u s).slave = s.slave := rfl
@[simp] theorem recordCrc_startReg : (recordCrc u s).startReg = s.startReg := rfl
@[simp] theorem recordCrc_count : (recordCrc u s).count = s.count := rfl
@[simp] theorem recordCrc_byteCount : (recordCrc u s).byteCount = s.byteCount := rfl
@[simp] theorem recordCrc_dataLen : (recordCrc u s).dataLen = s.dataLen := rfl
@[simp] theorem recordCrc_crc : (recordCrc u s).crc = computedCrc u := rfl
@[simp] theorem recordCrc_code : (recordCrc u s).code = s.code := rfl
@[simp] theorem recordCrc_nulSkipped : (recordCrc u s).nulSkipped = s.nulSkipped := rfl
@[simp] theorem recordCrc_echoShort : (recordCrc u s).echoShort = s.echoShort := rfl
@[simp] theorem recordCrc_frameValid : (recordCrc u s).frameValid = s.frameValid := rfl
@[simp] theorem recordCrc_txLen : (recordCrc u s).txLen = s.txLen := rfl
@[simp] theorem recordCrc_frameFc : (recordCrc u s).frameFc = s.frameFc := rfl
@[simp] theorem recordCrc_rxLen : (recordCrc u s).rxLen = s.rxLen := rfl
@[simp] theorem recordCrc_respOff : (recordCrc u s).respOff = s.respOff := rfl
@[simp] theorem recordCrc_respLen : (recordCrc u s).respLen = s.respLen := rfl
@[simp] theorem recordCrc_payloadOff : (recordCrc u s).payloadOff = s.payloadOff := rfl
@[simp] theorem recordCrc_payloadLen : (recordCrc u s).payloadLen = s.payloadLen := rfl
@[simp] theorem recordCrc_rxReceived : (recordCrc u s).rxReceived = receivedCrc u := rfl
@[simp] theorem recordCrc_rxComputed : (recordCrc u s).rxComputed = computedCrc u := rfl
@[simp] theorem recordCrc_mem : (recordCrc u s).mem = s.mem := rfl
@[simp] theorem recordCrc_resets : (recordCrc u s).resets = s.resets := rfl
@[simp] theorem recordCrc_pending : (recordCrc u s).pending = s.pending := rfl
@[simp] theorem recordCrc_readData : (recordCrc u s).readData = s.readData := rfl
end recordCrc_fields

/-- PARSE stores to no buffer: the bytes read as before through each of its updates. -/
@[simp] theorem byte_parseAbort (c : StatusCode) (s : State) (a : Nat) : (parseAbort c s).byte a = s.byte a := rfl
@[simp] theorem byte_locateCandidate (s : State) (a : Nat) : (locateCandidate s).byte a = s.byte a := rfl
@[simp] theorem byte_recordCrc (u s : State) (a : Nat) : (recordCrc u s).byte a = s.byte a := rfl
@[simp] theorem byte_buildFail (s : State) (a : Nat) : (buildFail s).byte a = s.byte a := rfl

/-! ### emit (41_framer.md R130) -/

section emit
variable (fc : Byte) (body : List Byte) (s : State)

/-- The frame `emit` writes: address, function code, body, and the CRC of those bytes, low byte first. -/
theorem bytes_emit :
    (emit fc body s).bytes txBase (body.length + 4) =
      (s.slave :: fc :: body) ++ crcBytes (crc16 Config.crcInit (s.slave :: fc :: body)) := by
  have h := State.bytes_setMem_writeBytes s txBase
    ((s.slave :: fc :: body) ++ crcBytes (crc16 Config.crcInit (s.slave :: fc :: body)))
  rw [show ((s.slave :: fc :: body) ++ crcBytes (crc16 Config.crcInit (s.slave :: fc :: body))).length
    = body.length + 4 by simp [crcBytes]] at h
  rw [← h]
  exact State.bytes_congr _ (fun _ _ _ => rfl)

/-- Every byte outside the frame reads as before. -/
theorem byte_emit_outside {a : Nat} (h : a < txBase ∨ txBase + (body.length + 4) ≤ a) :
    (emit fc body s).byte a = s.byte a := by
  simp only [emit, State.byte_report, State.byte_setFrame, State.byte_setCrc, State.byte_setMem_writeBytes]
  exact if_neg (by simp [crcBytes]; omega)

theorem emit_txLen_toNat (h : body.length + 4 < 512) : (emit fc body s).txLen.toNat = body.length + 4 := by
  simp only [emit, State.report_txLen, State.setFrame_txLen, BitVec.toNat_ofNat]
  rw [Nat.mod_eq_of_lt (by simp [crcBytes]; omega)]
  simp [crcBytes]

end emit

/-! ### The lengths of the bodies -/

theorem length_rdBody (s : State) : (rdBody s).length = 4 := rfl

theorem length_wmrBody (s : State) : (wmrBody s).length = 5 + s.byteCount.toNat := by
  simp only [wmrBody, List.length_append, length_rdBody, List.length_cons, State.length_bytes]
  omega

/-! ### The candidate of PARSE (42_parser.md R153) -/

theorem candidateOff_le (s : State) : candidateOff s ≤ rxCount s := Nat.min_le_left _ _

theorem candidateOff_add_len (s : State) : candidateOff s + candidateLen s = rxCount s := by
  have := candidateOff_le s
  unfold candidateLen
  omega

/-- The candidate's place fits the 11 bits of RESP_OFF and RESP_LEN. -/
theorem candidate_lt (s : State) : candidateOff s < 2 ^ 11 ∧ candidateLen s < 2 ^ 11 := by
  have h : rxCount s < 2 ^ 11 := s.rxLen.isLt
  have := candidateOff_add_len s
  omega

/-- The six ways PARSE ends once it has looked at the received bytes (R150). -/
theorem parseCandidate_cases (s : State) :
    (candidateLen s = 0 ∧ parseCandidate s = (locateCandidate s).report .noResponse) ∨
    (0 < candidateLen s ∧ candidateLen s < 4 ∧ parseCandidate s = (locateCandidate s).report .shortFrame) ∨
    (4 ≤ candidateLen s ∧ receivedCrc s ≠ computedCrc s ∧
      parseCandidate s = (recordCrc s (locateCandidate s)).report .crcError) ∨
    (4 ≤ candidateLen s ∧ receivedCrc s = computedCrc s ∧ (s.frameFc = 0x03 ∨ s.frameFc = 0x04) ∧
      candidateLen s ≠ (respByteCount s).toNat + 5 ∧
      parseCandidate s = (recordCrc s (locateCandidate s)).report .bcntError) ∨
    (4 ≤ candidateLen s ∧ receivedCrc s = computedCrc s ∧ (s.frameFc = 0x03 ∨ s.frameFc = 0x04) ∧
      candidateLen s = (respByteCount s).toNat + 5 ∧
      parseCandidate s = ((recordCrc s (locateCandidate s)).setPayload
        (BitVec.ofNat 11 (candidateOff s + 3)) (respByteCount s)).report .ok) ∨
    (4 ≤ candidateLen s ∧ receivedCrc s = computedCrc s ∧ ¬(s.frameFc = 0x03 ∨ s.frameFc = 0x04) ∧
      parseCandidate s = (recordCrc s (locateCandidate s)).report .ok) := by
  have m4 : Config.minResp = 4 := rfl
  unfold parseCandidate acceptPayload
  dsimp only
  by_cases h0 : candidateLen s = 0
  · exact .inl ⟨h0, if_pos h0⟩
  by_cases h4 : candidateLen s < Config.minResp
  · exact .inr (.inl ⟨by omega, by omega, (if_neg h0).trans (if_pos h4)⟩)
  by_cases hc : receivedCrc s = computedCrc s
  · by_cases hf : s.frameFc = 0x03 ∨ s.frameFc = 0x04
    · by_cases hb : candidateLen s = (respByteCount s).toNat + 5
      · exact .inr (.inr (.inr (.inr (.inl ⟨by omega, hc, hf, hb,
          (if_neg h0).trans ((if_neg h4).trans ((if_neg (not_not.mpr hc)).trans ((if_pos hf).trans (if_neg (not_not.mpr hb)))))⟩))))
      · exact .inr (.inr (.inr (.inl ⟨by omega, hc, hf, hb,
          (if_neg h0).trans ((if_neg h4).trans ((if_neg (not_not.mpr hc)).trans ((if_pos hf).trans (if_pos hb))))⟩)))
    · exact .inr (.inr (.inr (.inr (.inr ⟨by omega, hc, hf,
        (if_neg h0).trans ((if_neg h4).trans ((if_neg (not_not.mpr hc)).trans (if_neg hf)))⟩))))
  · exact .inr (.inr (.inl ⟨by omega, hc, (if_neg h0).trans ((if_neg h4).trans (if_pos hc))⟩))

/-- The three ways PARSE runs (R150). -/
theorem execParse_cases (s : State) :
    (s.frameValid = false ∧ execParse s = .next (parseAbort .seqError s)) ∨
    (s.frameValid = true ∧ 1024 < rxCount s ∧ execParse s = .next (parseAbort .paramError s)) ∨
    (s.frameValid = true ∧ rxCount s ≤ 1024 ∧ execParse s = .next (parseCandidate s)) := by
  unfold execParse
  simp only [Config.rxMax]
  cases hv : s.frameValid with
  | false => exact .inl ⟨rfl, by simp⟩
  | true =>
    by_cases hn : 1024 < rxCount s
    · exact .inr (.inl ⟨rfl, hn, by simp [hn]⟩)
    · exact .inr (.inr ⟨rfl, by omega, by simp [hn]⟩)

/-- The two ways BUILD_WMR runs (41_framer.md R135). -/
theorem execBuildWmr_cases (s : State) :
    (dataLenMatches s = true ∧ execBuildWmr s = .next (emit 0x10 (wmrBody s) s)) ∨
    (dataLenMatches s = false ∧ execBuildWmr s = .next (buildFail s)) := by
  unfold execBuildWmr
  cases h : dataLenMatches s <;> simp

/-! ### The arms of exec -/

theorem exec_nop (s : State) : exec .nop s = .next s := rfl
theorem exec_buildRhr (s : State) : exec .buildRhr s = .next (emit 0x03 (rdBody s) s) := rfl
theorem exec_buildRir (s : State) : exec .buildRir s = .next (emit 0x04 (rdBody s) s) := rfl
theorem exec_buildWmr (s : State) : exec .buildWmr s = execBuildWmr s := rfl
theorem exec_crcReset (s : State) : exec .crcReset s = .next ((s.setCrc Config.crcInit).report .ok) := rfl
theorem exec_crcByte (b : Byte) (s : State) :
    exec (.crcByte b) s = .next ((s.setCrc (crcStep s.crc b)).report .ok) := rfl
theorem exec_parse (s : State) : exec .parse s = execParse s := rfl

end Sys2Proof.Machine
end

