-- ==== Sys2Proof/Laws/Bus.lean ====
section
/-! SUPPORT. What the host bus and a step can do, said once (20_memory.md R61 to R65): the regions of the window, the refusal of
undefined accesses, and the effect of a defined write. -/

namespace Sys2Proof.Machine

/-! ### The regions -/

theorem regionOf_reg (r : Reg) : regionOf r.offset = .reg r := by cases r <;> decide

/-- A register's offset is the only one that names it. -/
theorem regionOf_eq_reg {off : Nat} {r : Reg} (h : regionOf off = .reg r) : off = r.offset := by
  unfold regionOf at h
  split at h
  · split at h
    · next q hq =>
      have := List.find?_some hq
      cases h
      exact (beq_iff_eq.mp this).symm
    · cases h
  · repeat' split at h
    all_goals cases h

theorem regionOf_eq_dataBuf {off : Nat} (h : regionOf off = .dataBuf) : 0x100 ≤ off ∧ off < 0x200 := by
  unfold regionOf at h
  repeat' split at h
  all_goals first | omega | cases h

theorem regionOf_eq_rxBuf {off : Nat} (h : regionOf off = .rxBuf) : 0x400 ≤ off := by
  unfold regionOf at h
  repeat' split at h
  all_goals first | omega | cases h

/-! ### Defined and refused accesses -/

theorem accessRefusal_eq_none {off width : Nat} :
    accessRefusal off width = Option.none ↔ off < 0x800 ∧ width = 4 ∧ off % 4 = 0 := by
  unfold accessRefusal
  simp only [Config.window]
  by_cases h1 : 0x800 ≤ off
  · simp only [h1, if_true, reduceCtorEq, false_iff]; omega
  · by_cases h2 : width = 4 ∧ off % 4 = 0
    · simp only [h1, h2, and_self, if_true, if_false, true_iff, and_true]; omega
    · simp only [h1, h2, if_false, reduceCtorEq, and_false]

theorem onEvent_read {off width : Nat} {s : State} (h : accessRefusal off width = Option.none) :
    onEvent (.read off width) s = .next (s.setReadData (busRead s off)) := by
  simp [onEvent, h]

theorem onEvent_write {off width : Nat} {w : Word} {s : State} (h : accessRefusal off width = Option.none) :
    onEvent (.write off width w) s = busWrite s off w := by
  simp [onEvent, h]

theorem onEvent_read_refused {off width : Nat} {s : State} {r : Refusal} (h : accessRefusal off width = some r) :
    onEvent (.read off width) s = .refused r := by
  simp [onEvent, h]

theorem onEvent_write_refused {off width : Nat} {w : Word} {s : State} {r : Refusal}
    (h : accessRefusal off width = some r) : onEvent (.write off width w) s = .refused r := by
  simp [onEvent, h]

/-- The five kinds of effect a defined write has (R62). -/
theorem busWrite_cases (s : State) (off : Nat) (w : Word) :
    (off = 0 ∧ busWrite s off w = runCommand w s) ∨
    (∃ r : Reg, r ≠ .cmd ∧ off = r.offset ∧ busWrite s off w = .next (regStore s w r)) ∨
    (0x100 ≤ off ∧ off < 0x200 ∧ busWrite s off w = .next (s.storeWord off w)) ∨
    (0x400 ≤ off ∧ busWrite s off w = .next (s.storeWord off w)) ∨
    busWrite s off w = .next s := by
  unfold busWrite
  cases h : regionOf off with
  | reg r =>
    have ho := regionOf_eq_reg h
    cases r
    case cmd => exact .inl ⟨ho, rfl⟩
    all_goals exact .inr (.inl ⟨_, by decide, ho, rfl⟩)
  | dataBuf =>
    have ⟨h1, h2⟩ := regionOf_eq_dataBuf h
    exact .inr (.inr (.inl ⟨h1, h2, rfl⟩))
  | rxBuf => exact .inr (.inr (.inr (.inl ⟨regionOf_eq_rxBuf h, rfl⟩)))
  | txBuf => exact .inr (.inr (.inr (.inr rfl)))
  | txPad => exact .inr (.inr (.inr (.inr rfl)))
  | reserved => exact .inr (.inr (.inr (.inr rfl)))

/-- A write to CMD runs its command or reports `ILLEGAL_OP`. -/
theorem runCommand_cases (w : Word) (s : State) :
    (∃ i, decode w = .ok i ∧ runCommand w s = exec i s) ∨
    (∃ e, decode w = .error e ∧ runCommand w s = .next (s.report .illegalOp)) := by
  unfold runCommand
  cases h : decode w with
  | ok i => exact .inl ⟨i, rfl, rfl⟩
  | error e => exact .inr ⟨e, rfl, rfl⟩

/-- A buffer byte after a store of a word. -/
theorem byte_storeWord (s : State) (off : Nat) (w : Word) (a : Nat) :
    (s.storeWord off w).byte a =
      if off ≤ a ∧ a < off + 4 then (laneBytes w).getD (a - off) 0 else s.byte a :=
  State.byte_setMem_writeBytes s off (laneBytes w) a

/-! ### One step -/

theorem step_idle {s : State} (h : s.pending = []) : step s = .next s := by
  simp [step, takeEvent, h]

theorem step_event {s : State} {e : HostEvent} {es : List HostEvent} (h : s.pending = e :: es) :
    step s = onEvent e (s.setPending es) := by
  simp [step, takeEvent, h]

/-! ### Runs of events -/

theorem runEvents_cons {e : HostEvent} {es : List HostEvent} {s t : State} (h : onEvent e s = .next t) :
    runEvents (e :: es) s = runEvents es t := by
  simp [runEvents, h, andThen]

theorem runEvents_append (es fs : List HostEvent) (s : State) :
    runEvents (es ++ fs) s = andThen (runEvents es s) (runEvents fs) := by
  induction es generalizing s with
  | nil => rfl
  | cons e es ih =>
    simp only [List.cons_append, runEvents]
    cases onEvent e s with
    | next t => exact ih t
    | fault r => rfl
    | refused r => rfl

end Sys2Proof.Machine
end

