-- ==== Sys2Proof/Laws/Crc.lean ====
section
/-! SUPPORT. The laws of one CRC iteration, of the CRC step and of the CRC of a sequence (40_crc.md R110, R111). -/

namespace Sys2Proof.Machine

/-- One iteration is linear over GF(2). -/
theorem crcShift_xor (c d : Half) : crcShift (c ^^^ d) = crcShift c ^^^ crcShift d := by
  unfold crcShift
  rw [BitVec.getLsbD_xor, BitVec.ushiftRight_xor_distrib]
  generalize c >>> 1 = x
  generalize d >>> 1 = y
  generalize Config.crcPoly = p
  cases c.getLsbD 0 <;> cases d.getLsbD 0 <;> ext i hi <;>
    simp only [Bool.xor_true, Bool.xor_false, Bool.not_true, Bool.not_false, if_true, if_false,
      Bool.false_eq_true, BitVec.getElem_xor] <;>
    cases x[i] <;> cases y[i] <;> cases p[i] <;> rfl

theorem crcShifts_xor (n : Nat) (c d : Half) : crcShifts n (c ^^^ d) = crcShifts n c ^^^ crcShifts n d := by
  induction n generalizing c d with
  | zero => rfl
  | succ n ih => simp only [crcShifts, crcShift_xor, ih]

theorem crcShifts_add (n m : Nat) (c : Half) : crcShifts (n + m) c = crcShifts m (crcShifts n c) := by
  induction n generalizing c with
  | zero => simp [crcShifts]
  | succ n ih => rw [show n + 1 + m = (n + m) + 1 by omega]; exact ih _

end Sys2Proof.Machine
end

