-- ==== Sys2Proof/Laws/PerInstr.lean ====
section
/-! SUPPORT. Facts about every command as syntax, one lemma for each constructor. -/

namespace Sys2Proof

/-- The bits of a word that carries an argument and an opcode under zero upper bits. -/
theorem bit_of_word (a o : Byte) (k : Nat) :
    BitVec.getLsbD (w := 16 + (8 + 8)) ((0 : Half) ++ (a ++ o)) k =
      if k < 8 then o.getLsbD k else if k < 16 then a.getLsbD (k - 8) else false := by
  rw [BitVec.getLsbD_append, BitVec.getLsbD_append]
  by_cases h8 : k < 8
  · simp [h8, show k < 16 by omega]
  · by_cases h16 : k < 16 <;> simp [h8, h16]

/-- The fields of such a word. -/
theorem fields_of_word (a o : Byte) :
    opField ((0 : Half) ++ (a ++ o)) = o ∧ argField ((0 : Half) ++ (a ++ o)) = a ∧
    BitVec.extractLsb' 16 16 ((0 : Half) ++ (a ++ o) : Word) = 0 := by
  refine ⟨?_, ?_, ?_⟩
  · refine BitVec.eq_of_getLsbD_eq fun i hi => ?_
    rw [opField, BitVec.getLsbD_extractLsb']
    erw [bit_of_word]
    simp [hi]
  · refine BitVec.eq_of_getLsbD_eq fun i hi => ?_
    rw [argField, BitVec.getLsbD_extractLsb']
    erw [bit_of_word]
    simp [hi, show 8 + i < 16 by omega]
  · refine BitVec.eq_of_getLsbD_eq fun i hi => ?_
    rw [BitVec.getLsbD_extractLsb']
    erw [bit_of_word]
    simp [show ¬16 + i < 8 by omega]

namespace Laws.Encoding

/-- The encoded word carries the command's OP in bits [7:0] and its ARG in bits [15:8], and every ignored bit is zero
(30_encoding.md R89); the command is well formed. -/
def Statement (i : Instr) : Prop :=
  opField (encode i) = i.opcode ∧ argField (encode i) = i.arg ∧ canonicalWord (encode i) = true ∧
  i.wellFormed = true

theorem nop : Statement .nop := by unfold Statement; decide
theorem buildRhr : Statement .buildRhr := by unfold Statement; decide
theorem buildRir : Statement .buildRir := by unfold Statement; decide
theorem buildWmr : Statement .buildWmr := by unfold Statement; decide
theorem crcReset : Statement .crcReset := by unfold Statement; decide

theorem crcByte (arg : Byte) : Statement (.crcByte arg) := by
  obtain ⟨ho, ha, hz⟩ := fields_of_word arg 0x81
  refine ⟨ho, ha, ?_, rfl⟩
  simp only [canonicalWord, encode, Instr.arg, Instr.opcode, ho, hz]
  rfl

theorem parse : Statement .parse := by unfold Statement; decide

end Laws.Encoding
end Sys2Proof
end

