-- ==== Sys2Proof/Laws/Protocol.lean ====
section
/-! SUPPORT. What one attempt and one turn of the exchange's loop can do (60_exceptions.md R192 to R196), and how the actions on
the link are counted. -/

namespace Sys2Proof.Machine

/-! ### One attempt -/

@[simp] theorem attempt_reopenFailed (s : State) :
    attempt .reopenFailed s = .next { state := s, actions := [], result := .transportError } := rfl

@[simp] theorem attempt_ioException (s : State) :
    attempt .ioException s = .next { state := s, actions := [.transmit s.frame], result := .transportError } := rfl

/-- An attempt that completes did to the link what its outcome says, and ends with `TransportError` or with a PARSE of the
received bytes. -/
theorem attempt_cases {l : LinkOutcome} {s : State} {r : HostRun AttemptResult} (h : attempt l s = .next r) :
    r.actions = l.actions s.frame ∧
    (r.state = s ∧ r.result = .transportError ∨
      ∃ bytes, l = .received bytes ∧ r.result = .status r.state.code ∧
        runEvents (rxLoad (bytes.take Config.rxMax) ++ [cmd .parse]) s = .next r.state) := by
  cases l with
  | reopenFailed => cases h; exact ⟨rfl, .inl ⟨rfl, rfl⟩⟩
  | ioException => cases h; exact ⟨rfl, .inl ⟨rfl, rfl⟩⟩
  | received bytes =>
    simp only [attempt] at h
    cases hr : runEvents (rxLoad (bytes.take Config.rxMax) ++ [cmd .parse]) s with
    | next t => rw [hr] at h; cases h; exact ⟨rfl, .inr ⟨bytes, rfl, rfl, hr⟩⟩
    | fault f => rw [hr] at h; cases h
    | refused f => rw [hr] at h; cases h

/-! ### One turn of the loop -/

section
variable {p : Config.HostParams} {q : Request} {link : Nat → LinkOutcome} {left a : Nat} {done : List LinkAction}
  {s : State} {r : HostRun AttemptResult}

theorem attempts_success (h : attempt (link a) s = .next r) (hr : r.result = .status .ok) :
    attempts p q link left a done s =
      .next { state := r.state, actions := done ++ r.actions, result := q.success r.state } := by
  cases left <;> simp [attempts, h, andThen, hr]

theorem attempts_retry (h : attempt (link a) s = .next r) (hr : r.result.retryable = true) :
    attempts p q link (left + 1) a done s =
      attempts p q link left (a + 1) (done ++ r.actions ++ [.reopen, .sleep p.backoffMs]) r.state := by
  have hok : r.result ≠ .status .ok := fun e => by rw [e] at hr; cases hr
  simp [attempts, h, andThen, hok, hr]

theorem attempts_exhausted (h : attempt (link a) s = .next r) (hr : r.result ≠ .status .ok) :
    attempts p q link 0 a done s =
      .next { state := r.state, actions := done ++ r.actions, result := .failed r.result } := by
  simp [attempts, h, andThen, hr]

theorem attempts_notRetryable (h : attempt (link a) s = .next r) (hr : r.result ≠ .status .ok)
    (hn : r.result.retryable = false) :
    attempts p q link left a done s =
      .next { state := r.state, actions := done ++ r.actions, result := .failed r.result } := by
  cases left <;> simp [attempts, h, andThen, hr, hn]

end

/-! ### Counting the actions -/

@[simp] theorem transmissions_nil : transmissions [] = 0 := rfl
@[simp] theorem reopens_nil : reopens [] = 0 := rfl

@[simp] theorem transmissions_append (as bs : List LinkAction) :
    transmissions (as ++ bs) = transmissions as + transmissions bs := List.countP_append

@[simp] theorem reopens_append (as bs : List LinkAction) : reopens (as ++ bs) = reopens as + reopens bs :=
  List.countP_append

@[simp] theorem transmissions_retry (ms : Nat) (as : List LinkAction) :
    transmissions (.reopen :: .sleep ms :: as) = transmissions as := by
  simp only [transmissions, List.countP_cons]
  rfl

@[simp] theorem reopens_retry (ms : Nat) (as : List LinkAction) :
    reopens (.reopen :: .sleep ms :: as) = reopens as + 1 := by
  simp only [reopens, List.countP_cons]
  rfl

@[simp] theorem reopens_actions (f : List Byte) (l : LinkOutcome) : reopens (l.actions f) = 0 := by
  cases l <;> rfl

theorem transmissions_actions (f : List Byte) (l : LinkOutcome) :
    transmissions (l.actions f) = if l = .reopenFailed then 0 else 1 := by
  cases l <;> rfl

end Sys2Proof.Machine
end

