-- ==== Sys2Proof/Tests/Slice0.lean ====
section
/-! SUPPORT. Tests: values taken from spec/95_test_vectors.md and from the worked examples of the rules, words written out from
30_encoding.md, and for each statement with hypotheses a concrete state that meets them together. -/

namespace Sys2Proof.Tests

open Sys2Proof Sys2Proof.Machine

/-! ### Helpers -/

/-- The state an outcome answers; the reset state where it stopped. -/
def stateOf (o : Host.Outcome State Fault Refusal) : State :=
  match o with
  | .next t => t
  | .fault _ => State.reset
  | .refused _ => State.reset

/-- Whether an outcome is a refusal. -/
def isRefused (o : Host.Outcome State Fault Refusal) : Bool :=
  match o with
  | .next _ => false
  | .fault _ => false
  | .refused _ => true

/-- The operand registers of a request. -/
def operands (a : Byte) (r c : Half) : State := { State.reset with slave := a, startReg := r, count := c }

/-- A write request with `bc` in BYTE_COUNT, `n` in DATA_LEN and its data in DATABUF. -/
def writeOperands (a : Byte) (r c : Half) (bc : Byte) (n : BitVec 9) (data : List Byte) : State :=
  { operands a r c with byteCount := bc, dataLen := n, mem := Memory.writeBytes [] dataBase data }

/-- A state that retains a frame of length 8 and function code `fc` and holds received bytes (the frame's own bytes play no part in
PARSE, 42_parser.md R151). -/
def received (fc : Byte) (rx : List Byte) : State :=
  { State.reset with
    frameValid := true, txLen := 8, frameFc := fc, crc := 0xF73F,
    rxLen := BitVec.ofNat 11 rx.length, mem := Memory.writeBytes [] rxBase rx }

/-- The frame F2 of the vectors, received back as the echo. -/
def echo : List Byte := [0x01, 0x03, 0x21, 0x07, 0x00, 0x01, 0x3F, 0xF7]

/-- The response of vectors P1 and P2. -/
def resp : List Byte := [0x01, 0x03, 0x02, 0x00, 0x00, 0xB8, 0x44]

/-! ### Well-formedness: each check refuses an ill-formed access (20_memory.md R64, R65) -/

theorem test_wf_width : (HostEvent.read 0x100 2).wellFormed = false := by decide
theorem test_wf_alignment : (HostEvent.write 0x102 4 0).wellFormed = false := by decide
theorem test_wf_window : (HostEvent.read 0x800 4).wellFormed = false := by decide
theorem test_wf_good : (HostEvent.write 0x7FC 4 0).wellFormed = true := by decide

/-! ### Decoding: words written out from 30_encoding.md R89 and R90 -/

theorem test_decode_nop : decode 0x0000FF00 = .ok .nop := by decide
theorem test_decode_buildRhr : decode 0x00000003 = .ok .buildRhr := by decide
theorem test_decode_buildRir : decode 0x00000004 = .ok .buildRir := by decide
theorem test_decode_buildWmr : decode 0x00000010 = .ok .buildWmr := by decide
theorem test_decode_crcReset : decode 0x00000080 = .ok .crcReset := by decide
theorem test_decode_crcByte : decode 0x00000381 = .ok (.crcByte 0x03) := by decide
theorem test_decode_parse : decode 0x00000082 = .ok .parse := by decide
theorem test_decode_reserved : decode 0xFFFF0083 = .error (.reservedOp 0x83) := by decide
theorem test_encode_crcByte : encode (.crcByte 0x01) = 0x00000181 := by decide
theorem test_decodeTableWord : decodeTableWord 32 0x0181 = some (.crcByte 0x01) := by decide
theorem test_decodeTableWord_byte : decodeTableWord 8 0x82 = some .parse := by decide

/-! ### The CRC function: vectors C2, C3, C5, C9 and C12 -/

theorem test_crc_c2 : crcStep 0xFFFF 0x01 = 0x807E := by decide
theorem test_crc_c3 : crcStep 0xFFFF 0x00 = 0x40BF := by decide
theorem test_crc_c5 : crcStep 0x0000 0x01 = 0xC0C1 := by decide
theorem test_crc_c9 : crc16 0xFFFF [0xA5] = 0x3B7F := by decide
theorem test_crc_c12 :
    crc16 0xFFFF [0x31, 0x32, 0x33, 0x34, 0x35, 0x36, 0x37, 0x38, 0x39] = 0x4B37 := by decide +kernel

/-! ### The commands, at most two each -/

/-- K1. -/
theorem test_nop : (stateOf (exec .nop { State.reset with code := .crcError })).code = .crcError := by decide

/-- C14. -/
theorem test_crcReset : (stateOf (exec .crcReset { State.reset with crc := 0x1234 })).crc = 0xFFFF := by decide

/-- C15. -/
theorem test_crcByte : (stateOf (exec (.crcByte 0x01) State.reset)).crc = 0x807E := by decide

/-- F2, with the CRC register of the vector. -/
theorem test_buildRhr :
    (stateOf (exec .buildRhr (operands 0x01 0x2107 1))).frame = echo ∧
    (stateOf (exec .buildRhr (operands 0x01 0x2107 1))).crc = 0xF73F := by decide +kernel

/-- F3. -/
theorem test_buildRir :
    (stateOf (exec .buildRir (operands 0x01 0x2107 1))).frame =
      [0x01, 0x04, 0x21, 0x07, 0x00, 0x01, 0x8A, 0x37] := by decide +kernel

/-- F9. -/
theorem test_buildWmr :
    (stateOf (exec .buildWmr (writeOperands 0x01 0x091A 2 4 4 [0x00, 0x3C, 0x00, 0x01]))).frame =
      [0x01, 0x10, 0x09, 0x1A, 0x00, 0x02, 0x04, 0x00, 0x3C, 0x00, 0x01, 0x19, 0x40] := by decide +kernel

/-- F14: the data length 260 is not the byte count 4 modulo anything. -/
theorem test_buildWmr_fails :
    (stateOf (exec .buildWmr (writeOperands 0x01 0 0 4 260 []))).code = .paramError ∧
    (stateOf (exec .buildWmr (writeOperands 0x01 0 0 4 260 []))).txLen = 0 := by decide

/-- P2: the NUL is skipped, and the payload found behind it. -/
theorem test_parse_ok :
    let t := stateOf (exec .parse (received 0x03 (echo ++ 0x00 :: resp)))
    t.code = .ok ∧ t.nulSkipped = true ∧ t.respOff = 9 ∧ t.respLen = 7 ∧ t.payloadOff = 12 ∧ t.payloadLen = 2 ∧
      busRead t 0x03C = 0x44B844B8 := by decide +kernel

/-- P14: a bad CRC is reported before a wrong byte count. -/
theorem test_parse_priority :
    let t := stateOf (exec .parse (received 0x03 (echo ++ [0x01, 0x03, 0x03, 0x00, 0x00, 0x00, 0x00])))
    t.code = .crcError ∧ busRead t 0x03C = 0x84E90000 ∧ busRead t 0x004 = 0x000000C4 := by decide +kernel

/-! ### The host bus and the step -/

/-- K2: a reserved OP. -/
theorem test_reservedOp : (stateOf (step (State.reset.withFetchWord 32 0x06))).code = .illegalOp := by decide

/-- K5 and K6. -/
theorem test_readOnly : (stateOf (onEvent (.write 0x020 4 5) State.reset)).txLen = 0 ∧ busRead State.reset 0x040 = 0 := by decide

/-- C17. -/
theorem test_crcStore : busRead (stateOf (onEvent (.write 0x01C 4 0xABCD1234) State.reset)) 0x01C = 0x00001234 := by decide

/-- 20_memory.md R63, on the data word of Program 3. -/
theorem test_lanes : (stateOf (onEvent (.write 0x100 4 0x01003C00) State.reset)).bytes dataBase 4 = [0x00, 0x3C, 0x00, 0x01] := by
  decide

theorem test_refused_misaligned : isRefused (step { State.reset with pending := [.read 0x101 4] }) = true := by decide
theorem test_refused_outside : isRefused (step { State.reset with pending := [.write 0x800 4 0] }) = true := by decide

/-- The memory of a state that has stored to two buffers is canonical. -/
theorem test_memory_wf : Memory.wf (received 0x03 (echo ++ resp)).mem = true := by decide

/-! ### Witnesses: the hypotheses of each statement hold together -/

/-- A state whose next event is a command, with one event after it. -/
def commandState (w : Word) : State := { State.reset with pending := [.write 0x000 4 w, .reset] }

theorem witness_DecodeInvertsEncode : canonicalWord 0x0000A581 = true ∧ decode 0x0000A581 = .ok (.crcByte 0xA5) := by decide
theorem witness_DecodeSelectsByOpAlone :
    (0xFFFFFF06 : Word).toNat % 256 ∉ [0x00, 0x03, 0x04, 0x10, 0x80, 0x81, 0x82] := by decide
theorem witness_StepRunsDecodedCommand :
    (commandState 0xFFFF0182).pending = [.write 0x000 4 0xFFFF0182, .reset] ∧ decode 0xFFFF0182 = .ok .parse := by decide
theorem witness_StepReservedOpcode :
    (commandState 0x11).pending = [.write 0x000 4 0x11, .reset] ∧
    (0x11 : Word).toNat % 256 ∉ [0x00, 0x03, 0x04, 0x10, 0x80, 0x81, 0x82] := by decide
theorem witness_StepTakesEventsInOrder :
    (commandState 0x82).pending = [.write 0x000 4 0x82, .reset] ∧ State.reset.pending = [] := by decide
theorem witness_CrcResidueIsZero :
    isBuild .buildWmr = true ∧
    exec .buildWmr (writeOperands 0x01 0 0 0 0 []) =
      .next (emit 0x10 (wmrBody (writeOperands 0x01 0 0 0 0 [])) (writeOperands 0x01 0 0 0 0 [])) ∧
    (emit 0x10 (wmrBody (writeOperands 0x01 0 0 0 0 [])) (writeOperands 0x01 0 0 0 0 [])).frameValid = true :=
  ⟨rfl, by rw [exec_buildWmr, execBuildWmr, if_pos (by decide)], by rw [emit_frameValid]⟩
theorem witness_OneChangedByteChangesCrc : (0x00 : Byte) ≠ 0x80 := by decide
theorem witness_BuildWriteFrame :
    (writeOperands 0x11 1 0x7B 255 255 []).dataLen.toNat = (writeOperands 0x11 1 0x7B 255 255 []).byteCount.toNat ∧
    (writeOperands 0x11 0 0 0 0 []).dataLen.toNat = (writeOperands 0x11 0 0 0 0 []).byteCount.toNat := by decide
theorem witness_FailedBuildDropsFrame :
    (writeOperands 0x01 0 0 4 260 []).dataLen.toNat ≠ (writeOperands 0x01 0 0 4 260 []).byteCount.toNat ∧
    exec .buildWmr (writeOperands 0x01 0 0 4 260 []) = .next (buildFail (writeOperands 0x01 0 0 4 260 [])) ∧
    (buildFail (writeOperands 0x01 0 0 4 260 [])).code = .paramError ∧
    exec .buildRhr State.reset = .next (emit 0x03 (rdBody State.reset) State.reset) :=
  ⟨by decide, by rw [exec_buildWmr, execBuildWmr, if_neg (by decide)], rfl, exec_buildRhr _⟩
theorem witness_BuildFrameCondition : isBuild .buildRhr = true ∧ isBuild .buildRir = true ∧ isBuild .buildWmr = true := by decide

/-- Two states that differ in the CRC register, a parse result and a byte of RXBUF, and agree on what a BUILD reads. -/
theorem witness_BuildIsDeterministic :
    isBuild .buildWmr = true ∧
    SameBuildInputs (writeOperands 0x01 2 3 1 1 [0xAA])
      { writeOperands 0x01 2 3 1 1 [0xAA] with
        crc := 0, respOff := 9, mem := Memory.write (Memory.writeBytes [] dataBase [0xAA]) rxBase 0x55 } := by
  refine ⟨rfl, rfl, rfl, rfl, rfl, rfl, fun k hk => ?_⟩
  have hk1 : k < 1 := hk
  obtain rfl : k = 0 := by omega
  decide

theorem witness_StoresKeepRetainedFrame :
    (0x1FC : Nat) ≠ 0x000 ∧ 0x1FC % 4 = 0 ∧ 0x1FC < 0x800 ∧ (0x400 : Nat) ≠ 0x000 ∧ 0x400 % 4 = 0 ∧ 0x400 < 0x800 := by decide

/-- The two conditions of an abort, at the boundary 1025. -/
theorem witness_ParseAborts :
    State.reset.frameValid = false ∧ { received 0x03 [] with rxLen := 1025 }.frameValid = true ∧
    1024 < { received 0x03 [] with rxLen := 1025 }.rxLen.toNat := by decide

theorem ready_received (fc : Byte) (rx : List Byte) (h : (BitVec.ofNat 11 rx.length).toNat ≤ 1024) :
    ParseReady (received fc rx) ∧ exec .parse (received fc rx) = .next (parseCandidate (received fc rx)) := by
  refine ⟨⟨rfl, h⟩, ?_⟩
  rcases execParse_cases (received fc rx) with ⟨h1, _⟩ | ⟨_, h2, _⟩ | ⟨_, _, h3⟩
  · cases h1
  · exact absurd h (Nat.not_le.mpr h2)
  · exact h3

theorem witness_ParseSplitsReceivedBytes :
    ParseReady (received 0x03 (echo ++ [0x00])) ∧ ParseReady { received 0x03 [] with rxLen := 1024 } :=
  ⟨(ready_received _ _ (by decide)).1, rfl, by decide⟩

/-- Candidates of 0, 1 and 3 bytes. -/
theorem witness_ParseEmptyOrShortCandidate :
    (ParseReady (received 0x03 echo) ∧ exec .parse (received 0x03 echo) = .next (parseCandidate (received 0x03 echo)) ∧
      (parseCandidate (received 0x03 echo)).respLen.toNat = 0) ∧
    (ParseReady (received 0x03 (echo ++ [0x01])) ∧
      exec .parse (received 0x03 (echo ++ [0x01])) = .next (parseCandidate (received 0x03 (echo ++ [0x01]))) ∧
      (parseCandidate (received 0x03 (echo ++ [0x01]))).respLen.toNat = 1) ∧
    (ParseReady (received 0x03 (echo ++ [0x01, 0x03, 0x02])) ∧
      exec .parse (received 0x03 (echo ++ [0x01, 0x03, 0x02])) =
        .next (parseCandidate (received 0x03 (echo ++ [0x01, 0x03, 0x02]))) ∧
      (parseCandidate (received 0x03 (echo ++ [0x01, 0x03, 0x02]))).respLen.toNat = 3) := by
  obtain ⟨a1, a2⟩ := ready_received 0x03 echo (by decide)
  obtain ⟨b1, b2⟩ := ready_received 0x03 (echo ++ [0x01]) (by decide)
  obtain ⟨c1, c2⟩ := ready_received 0x03 (echo ++ [0x01, 0x03, 0x02]) (by decide)
  exact ⟨⟨a1, a2, by decide⟩, ⟨b1, b2, by decide⟩, ⟨c1, c2, by decide⟩⟩

/-- A candidate of exactly 4 bytes (P17), and one with a bad CRC (P10). -/
theorem witness_ParseChecksCrc :
    (ParseReady (received 0x03 (echo ++ [0x01, 0x03, 0x40, 0x21])) ∧
      exec .parse (received 0x03 (echo ++ [0x01, 0x03, 0x40, 0x21])) =
        .next (parseCandidate (received 0x03 (echo ++ [0x01, 0x03, 0x40, 0x21]))) ∧
      4 ≤ (parseCandidate (received 0x03 (echo ++ [0x01, 0x03, 0x40, 0x21]))).respLen.toNat) ∧
    (ParseReady (received 0x03 (echo ++ [0x01, 0x03, 0x02, 0x00, 0x00, 0xB8, 0x45])) ∧
      exec .parse (received 0x03 (echo ++ [0x01, 0x03, 0x02, 0x00, 0x00, 0xB8, 0x45])) =
        .next (parseCandidate (received 0x03 (echo ++ [0x01, 0x03, 0x02, 0x00, 0x00, 0xB8, 0x45]))) ∧
      4 ≤ (parseCandidate (received 0x03 (echo ++ [0x01, 0x03, 0x02, 0x00, 0x00, 0xB8, 0x45]))).respLen.toNat ∧
      (parseCandidate (received 0x03 (echo ++ [0x01, 0x03, 0x02, 0x00, 0x00, 0xB8, 0x45]))).code = .crcError) := by
  obtain ⟨a1, a2⟩ := ready_received 0x03 (echo ++ [0x01, 0x03, 0x40, 0x21]) (by decide)
  obtain ⟨b1, b2⟩ := ready_received 0x03 (echo ++ [0x01, 0x03, 0x02, 0x00, 0x00, 0xB8, 0x45]) (by decide)
  exact ⟨⟨a1, a2, by decide +kernel⟩, ⟨b1, b2, by decide +kernel, by decide +kernel⟩⟩

/-- A response whose byte count is right (P1, and P18 with no payload byte) and one whose byte count is wrong (P12). -/
theorem witness_ParseReadResponse :
    (ParseReady (received 0x03 (echo ++ resp)) ∧
      exec .parse (received 0x03 (echo ++ resp)) = .next (parseCandidate (received 0x03 (echo ++ resp))) ∧
      4 ≤ (parseCandidate (received 0x03 (echo ++ resp))).respLen.toNat ∧
      (parseCandidate (received 0x03 (echo ++ resp))).rxReceived = (parseCandidate (received 0x03 (echo ++ resp))).rxComputed ∧
      (parseCandidate (received 0x03 (echo ++ resp))).code = .ok) ∧
    (ParseReady (received 0x04 (echo ++ [0x01, 0x03, 0x00, 0x20, 0xF0])) ∧
      exec .parse (received 0x04 (echo ++ [0x01, 0x03, 0x00, 0x20, 0xF0])) =
        .next (parseCandidate (received 0x04 (echo ++ [0x01, 0x03, 0x00, 0x20, 0xF0]))) ∧
      4 ≤ (parseCandidate (received 0x04 (echo ++ [0x01, 0x03, 0x00, 0x20, 0xF0]))).respLen.toNat ∧
      (parseCandidate (received 0x04 (echo ++ [0x01, 0x03, 0x00, 0x20, 0xF0]))).rxReceived =
        (parseCandidate (received 0x04 (echo ++ [0x01, 0x03, 0x00, 0x20, 0xF0]))).rxComputed ∧
      (parseCandidate (received 0x04 (echo ++ [0x01, 0x03, 0x00, 0x20, 0xF0]))).code = .ok) ∧
    (ParseReady (received 0x03 (echo ++ [0x01, 0x03, 0x03, 0x00, 0x00, 0xE9, 0x84])) ∧
      exec .parse (received 0x03 (echo ++ [0x01, 0x03, 0x03, 0x00, 0x00, 0xE9, 0x84])) =
        .next (parseCandidate (received 0x03 (echo ++ [0x01, 0x03, 0x03, 0x00, 0x00, 0xE9, 0x84]))) ∧
      4 ≤ (parseCandidate (received 0x03 (echo ++ [0x01, 0x03, 0x03, 0x00, 0x00, 0xE9, 0x84]))).respLen.toNat ∧
      (parseCandidate (received 0x03 (echo ++ [0x01, 0x03, 0x03, 0x00, 0x00, 0xE9, 0x84]))).rxReceived =
        (parseCandidate (received 0x03 (echo ++ [0x01, 0x03, 0x03, 0x00, 0x00, 0xE9, 0x84]))).rxComputed ∧
      (parseCandidate (received 0x03 (echo ++ [0x01, 0x03, 0x03, 0x00, 0x00, 0xE9, 0x84]))).code = .bcntError) := by
  obtain ⟨a1, a2⟩ := ready_received 0x03 (echo ++ resp) (by decide)
  obtain ⟨b1, b2⟩ := ready_received 0x04 (echo ++ [0x01, 0x03, 0x00, 0x20, 0xF0]) (by decide)
  obtain ⟨c1, c2⟩ := ready_received 0x03 (echo ++ [0x01, 0x03, 0x03, 0x00, 0x00, 0xE9, 0x84]) (by decide)
  exact ⟨⟨a1, a2, by decide +kernel, by decide +kernel, by decide +kernel⟩, ⟨b1, b2, by decide +kernel, by decide +kernel, by decide +kernel⟩,
    ⟨c1, c2, by decide +kernel, by decide +kernel, by decide +kernel⟩⟩

/-- The acknowledgement of P22. -/
def writeAck : State := received 0x10 (echo ++ [0x01, 0x10, 0x09, 0x1A, 0x00, 0x02, 0x63, 0x93])

theorem witness_ParseWriteResponse :
    ParseReady writeAck ∧ exec .parse writeAck = .next (parseCandidate writeAck) ∧
    4 ≤ (parseCandidate writeAck).respLen.toNat ∧
    (parseCandidate writeAck).rxReceived = (parseCandidate writeAck).rxComputed ∧ writeAck.frameFc = 0x10 := by
  obtain ⟨a1, a2⟩ := ready_received 0x10 (echo ++ [0x01, 0x10, 0x09, 0x1A, 0x00, 0x02, 0x63, 0x93]) (by decide)
  exact ⟨a1, a2, by decide +kernel, by decide +kernel, rfl⟩

/-- Each code of PARSE's priority order occurs: a run of PARSE that succeeds, and one that aborts. -/
theorem witness_ParseStatusPriority :
    exec .parse (received 0x03 (echo ++ resp)) = .next (parseCandidate (received 0x03 (echo ++ resp))) ∧
    (parseCandidate (received 0x03 (echo ++ resp))).code = .ok ∧
    exec .parse State.reset = .next (parseAbort .seqError State.reset) ∧
    Instr.crcReset ≠ .parse ∧ Instr.crcReset ≠ .nop ∧
    exec .crcReset State.reset = .next ((State.reset.setCrc Config.crcInit).report .ok) :=
  ⟨(ready_received _ _ (by decide +kernel)).2, by decide +kernel, rfl, by decide +kernel, by decide +kernel, rfl⟩

theorem witness_ParseOkEstablishes :
    exec .parse (received 0x03 (echo ++ resp)) = .next (parseCandidate (received 0x03 (echo ++ resp))) ∧
    (parseCandidate (received 0x03 (echo ++ resp))).code = .ok ∧
    exec .parse (received 0x03 echo) = .next (parseCandidate (received 0x03 echo)) ∧
    (parseCandidate (received 0x03 echo)).code ≠ .ok :=
  ⟨(ready_received _ _ (by decide +kernel)).2, by decide +kernel, (ready_received _ _ (by decide +kernel)).2, by decide +kernel⟩

theorem witness_ParseIsRepeatable : exec .parse State.reset = .next (parseAbort .seqError State.reset) := rfl

/-- Two states that differ in the CRC register, an operand and a received byte at RX_LEN. -/
theorem witness_ParseReadsOnlyItsOperands :
    SameParseInputs (received 0x03 [0x55])
      { received 0x03 [0x55] with crc := 7, slave := 9, mem := Memory.write (Memory.writeBytes [] rxBase [0x55]) (rxBase + 1) 0x66 } ∧
    ParseReady (received 0x03 (echo ++ resp)) ∧
    4 ≤ (parseCandidate (received 0x03 (echo ++ resp))).respLen.toNat := by
  refine ⟨⟨rfl, rfl, rfl, rfl, fun k hk => ?_⟩, (ready_received _ _ (by decide +kernel)).1, by decide +kernel⟩
  have hk1 : k < 1 := hk
  obtain rfl : k = 0 := by omega
  decide

/-- The response of P2 (one NUL), the response of P1 (none), and an empty payload. -/
theorem witness_ParseAcceptsReadResponse :
    (ParseReady (received 0x03 (echo ++ 0x00 :: resp)) ∧ (received 0x03 (echo ++ 0x00 :: resp)).frameFc = 0x03 ∧
      (received 0x03 (echo ++ 0x00 :: resp)).rxLen.toNat =
        (received 0x03 (echo ++ 0x00 :: resp)).txLen.toNat + [(0x00 : Byte)].length + ([(0x00 : Byte), 0x00].length + 5) ∧
      (received 0x03 (echo ++ 0x00 :: resp)).bytes (rxBase + (received 0x03 (echo ++ 0x00 :: resp)).txLen.toNat) (1 + (2 + 5)) =
        [0x00] ++ withCrc (0x01 :: 0x03 :: BitVec.ofNat 8 2 :: [0x00, 0x00])) ∧
    (ParseReady (received 0x03 (echo ++ resp)) ∧ (0x01 : Byte) ≠ 0x00 ∧
      (received 0x03 (echo ++ resp)).rxLen.toNat = (received 0x03 (echo ++ resp)).txLen.toNat + 0 + (2 + 5) ∧
      (received 0x03 (echo ++ resp)).bytes (rxBase + (received 0x03 (echo ++ resp)).txLen.toNat) (0 + (2 + 5)) =
        [] ++ withCrc (0x01 :: 0x03 :: BitVec.ofNat 8 2 :: [0x00, 0x00])) ∧
    withCrc (0x01 :: 0x03 :: BitVec.ofNat 8 0 :: []) = [0x01, 0x03, 0x00, 0x20, 0xF0] := by
  refine ⟨⟨(ready_received _ _ (by decide +kernel)).1, rfl, by decide +kernel, by decide +kernel⟩,
    ⟨(ready_received _ _ (by decide +kernel)).1, by decide +kernel, by decide +kernel, by decide +kernel⟩, by decide +kernel⟩

/-- P1 with its first data byte changed (P11 changes the second). -/
theorem witness_ParseDetectsOneCorruptedByte :
    exec .parse (received 0x03 (echo ++ resp)) = .next (parseCandidate (received 0x03 (echo ++ resp))) ∧
    (parseCandidate (received 0x03 (echo ++ resp))).code = .ok ∧
    (received 0x03 (echo ++ resp)).txLen.toNat < 11 ∧
    (parseCandidate (received 0x03 (echo ++ resp))).respOff.toNat ≤ 11 ∧ 11 < (received 0x03 (echo ++ resp)).rxLen.toNat ∧
    (∀ j, j < 15 → j ≠ 11 → (received 0x03 (echo ++ [0x01, 0x03, 0x02, 0x40, 0x00, 0xB8, 0x44])).rxBuf j =
      (received 0x03 (echo ++ resp)).rxBuf j) ∧
    (received 0x03 (echo ++ [0x01, 0x03, 0x02, 0x40, 0x00, 0xB8, 0x44])).rxBuf 11 ≠ (received 0x03 (echo ++ resp)).rxBuf 11 :=
  ⟨(ready_received _ _ (by decide +kernel)).2, by decide +kernel, by decide +kernel, by decide +kernel, by decide +kernel, by decide +kernel, by decide +kernel⟩

theorem witness_CodesEachCommandRaises :
    exec .nop State.reset = .next State.reset ∧
    exec .crcReset State.reset = .next ((State.reset.setCrc Config.crcInit).report .ok) ∧
    exec .buildWmr (writeOperands 0x01 0 0 4 260 []) = .next (buildFail (writeOperands 0x01 0 0 4 260 [])) ∧
    exec .parse State.reset = .next (parseAbort .seqError State.reset) ∧
    (0x06 : Word).toNat % 256 ∉ [0x00, 0x03, 0x04, 0x10, 0x80, 0x81, 0x82] ∧
    runCommand 0x06 State.reset = .next (State.reset.report .illegalOp) :=
  ⟨rfl, rfl, by rw [exec_buildWmr, execBuildWmr, if_neg (by decide)], rfl, by decide, rfl⟩

theorem witness_CommandsNeverStop : Instr.parse ≠ .nop := by decide

theorem witness_StatusWriters :
    Instr.crcByte 0x00 ≠ .nop ∧ Instr.crcByte 0x00 ≠ .parse ∧
    exec (.crcByte 0x00) State.reset = .next ((State.reset.setCrc (crcStep State.reset.crc 0x00)).report .ok) :=
  ⟨by decide, by decide, rfl⟩

theorem witness_NopChangesNothing : (0xFFFFFF00 : Word).toNat % 256 = 0 := by decide

/-- The first and the last register of the list, and both ends of the TXBUF window. -/
theorem witness_ReadOnlyStoresIgnored :
    (0x004 % 4 = 0 ∧ 0x004 ∈ [0x004, 0x020, 0x024, 0x02C, 0x030, 0x034, 0x038, 0x03C]) ∧
    (0x03C % 4 = 0 ∧ 0x03C ∈ [0x004, 0x020, 0x024, 0x02C, 0x030, 0x034, 0x038, 0x03C]) ∧
    (0x200 % 4 = 0 ∧ 0x200 ≤ 0x200 ∧ 0x200 < 0x310) ∧ (0x30C % 4 = 0 ∧ 0x200 ≤ 0x30C ∧ 0x30C < 0x310) := by decide

/-- Both ends of both reserved ranges. -/
theorem witness_ReservedOffsets :
    (0x040 % 4 = 0 ∧ 0x040 ≤ 0x040 ∧ 0x040 < 0x100) ∧ (0x0FC % 4 = 0 ∧ 0x040 ≤ 0x0FC ∧ 0x0FC < 0x100) ∧
    (0x310 % 4 = 0 ∧ 0x310 ≤ 0x310 ∧ 0x310 < 0x400) ∧ (0x3FC % 4 = 0 ∧ 0x310 ≤ 0x3FC ∧ 0x3FC < 0x400) := by decide

/-- The last word of each buffer, and the two words after TXBUF. -/
theorem witness_BufferWordLanes :
    (0x100 + 4 * 63 = 0x1FC ∧ 63 < 64) ∧ (0x200 + 4 * 65 = 0x304 ∧ 65 < 66) ∧ (0x400 + 4 * 255 = 0x7FC ∧ 255 < 256) ∧
    (0x200 + 4 * 66 = 0x308 ∧ 0x200 + 4 * 67 = 0x30C) := by decide

theorem witness_SideEffectsOfAccesses :
    (0x7FC % 4 = 0 ∧ 0x7FC < 0x800) ∧ (0x7FC : Nat) ≠ 0x000 ∧
    onEvent (.write 0x7FC 4 0xAABBCCDD) State.reset = .next (State.reset.storeWord 0x7FC 0xAABBCCDD) :=
  ⟨by decide, by decide, rfl⟩

/-- A state outside reset that meets the invariant: the block after a successful BUILD. -/
theorem witness_StepKeepsInvariant : Inv State.reset ∧ step State.reset = .next State.reset :=
  ⟨⟨rfl, ⟨fun _ => ⟨rfl, rfl⟩, fun h => by cases h⟩, by decide, .inl ⟨rfl, rfl⟩⟩, rfl⟩

theorem witness_StepKeepsInvariant_frame :
    Inv (stateOf (exec .buildRhr (operands 0x01 0x2107 1))) ∧
    (stateOf (exec .buildRhr (operands 0x01 0x2107 1))).frameValid = true :=
  ⟨⟨by decide +kernel, ⟨fun h => absurd h (by decide +kernel), fun _ => ⟨by decide +kernel, .inl ⟨.inl (by decide +kernel), by decide +kernel⟩, by decide +kernel⟩⟩,
    by decide, .inl ⟨by decide, by decide⟩⟩, by decide⟩

theorem witness_SafeRunsNeverStop : SafeState (commandState 0x82) := by
  refine ⟨?_, rfl, ⟨fun _ => ⟨rfl, rfl⟩, fun h => by cases h⟩, by decide, .inl ⟨rfl, rfl⟩⟩
  intro e he
  rcases List.mem_cons.mp he with rfl | he
  · decide
  · rcases List.mem_cons.mp he with rfl | he
    · decide
    · cases he

theorem witness_EqualMemoriesAreEqualData :
    Memory.wf [(0x100, 0x01), (0x7FF, 0x00)] = true ∧
    ∀ a, Memory.read [(0x100, 0x01), (0x7FF, 0x00)] a = Memory.read [(0x100, 0x01), (0x7FF, 0x00)] a :=
  ⟨by decide, fun _ => rfl⟩

theorem witness_RxLoadPlacesBytes : (List.replicate 1024 (0x00 : Byte)).length ≤ 1024 :=
  le_of_eq List.length_replicate

/-! Three attempts that fail in different ways: an I/O exception, a failed reopening, and an echo with nothing after it. -/

def failingLink (a : Nat) : LinkOutcome :=
  if a = 1 then .ioException else if a = 2 then .reopenFailed else .received echo

def threeAttempts : Config.HostParams := { maxAttempts := 3, backoffMs := 500 }

def readRequest : Request := .readHolding 0x01 0x2107 1

/-- How an attempt ends, if it completes. -/
def attemptResult (l : LinkOutcome) (s : State) : Option AttemptResult :=
  match attempt l s with
  | .next r => some r.result
  | .fault _ => none
  | .refused _ => none

/-- The request builds, and each of the three attempts is retryable against its frame; the third one's error is its own. -/
theorem witness_ExhaustedExchange :
    1 ≤ threeAttempts.maxAttempts ∧ (stateOf (runEvents readRequest.program State.reset)).code = .ok ∧
    ([1, 2, 3].map fun a => attemptResult (failingLink a) (stateOf (runEvents readRequest.program State.reset))) =
      [some .transportError, some .transportError, some (.status .noResponse)] := by decide +kernel

/-- The exchange over that link surfaces the last attempt's error; the end-to-end example E4 has the same shape. -/
theorem test_exhaustedExchange :
    (match exchange threeAttempts readRequest failingLink State.reset with
      | .next u => some (u.result, transmissions u.actions, reopens u.actions)
      | .fault _ => none
      | .refused _ => none) = some (.failed (.status .noResponse), 2, 2) := by decide +kernel

/-- A write request builds as well, and a response with a bad CRC fails its attempt retryably (E4); no reopening fails there. -/
theorem witness_ExhaustedExchange_write :
    (stateOf (runEvents (Request.writeMultiple 0x01 0x091A 2 2 [0x01, 0x03]).program State.reset)).code = .ok ∧
    attemptResult (.received ([0x01, 0x10, 0x09, 0x1A, 0x00, 0x02, 0x02, 0x01, 0x03, 0x00, 0x00] ++ [0x01, 0x10, 0x00, 0x00]))
        (stateOf (runEvents (Request.writeMultiple 0x01 0x091A 2 2 [0x01, 0x03]).program State.reset)) =
      some (.status .crcError) ∧
    AttemptResult.retryable (.status .crcError) = true ∧ LinkOutcome.received [] ≠ .reopenFailed := by decide +kernel

theorem witness_CallerErrorEndsExchange : [(0x00 : Byte)].length ≤ 256 ∧ [(0x00 : Byte)].length ≠ (0x02 : Byte).toNat := by decide

/-- An exchange that completes: the end-to-end example E7, whose link answers with the echo and the response of P1. -/
def goodExchange : Option (HostRun ExchangeResult) :=
  match exchange Config.hostDefaults (.readHolding 0x01 0x2107 1) (fun _ => .received (echo ++ resp)) State.reset with
  | .next r => some r
  | .fault _ => none
  | .refused _ => none

theorem witness_ExchangePayloadIsValidated :
    (goodExchange.map fun r => (r.result, r.actions)) = some (.payload [0x00, 0x00], [.transmit echo]) := by decide +kernel

/-- The same exchange meets the hypotheses on the number of attempts: it is allowed ten and completes. -/
theorem witness_ExchangeAttemptsBounded :
    1 ≤ Config.hostDefaults.maxAttempts ∧ (goodExchange.map fun r => r.result) ≠ none := by decide +kernel

/-- The same exchange is one that completes, and it transmits a frame. -/
theorem witness_ExchangeRetransmitsSameFrame :
    (goodExchange.map fun r => transmissions r.actions) = some 1 := by decide +kernel

end Sys2Proof.Tests
end

/-! SUPPORT. The family of 10_state.md: the registers as the host bus reads and stores them, the canonical form of the buffer
memory, and the invariant of the block with the proof that reset establishes it and every step keeps it. -/

namespace Sys2Proof.Machine

/-! ### Registers on the host bus (10_state.md sections 2 and 3) -/

theorem busRead_reg (s : State) (r : Reg) : busRead s r.offset = regRead s r := by
  simp only [busRead, regionOf_reg]

theorem Reg.offset_le (r : Reg) : r.offset ≤ 0x03C := by cases r <;> decide

theorem accessRefusal_reg (r : Reg) : accessRefusal r.offset 4 = Option.none := by cases r <;> decide

/-- A word store to a register other than CMD is `regStore`. -/
theorem onEvent_write_reg (s : State) (w : Word) {r : Reg} (hr : r ≠ .cmd) :
    onEvent (.write r.offset 4 w) s = .next (regStore s w r) := by
  rw [onEvent_write (accessRefusal_reg r), busWrite, regionOf_reg]
  cases r
  case cmd => exact absurd rfl hr
  all_goals rfl

/-- Fields side by side in a word: the left one counts in units of the right one's range. -/
theorem toNat_append_eq_add {m n : Nat} (x : BitVec m) (y : BitVec n) :
    (x ++ y).toNat = x.toNat * 2 ^ n + y.toNat := by
  rw [BitVec.toNat_append, ← Nat.shiftLeft_add_eq_or_of_lt y.isLt, Nat.shiftLeft_eq]

theorem toNat_statusWord (s : State) :
    (statusWord s).toNat =
      s.code.bits.toNat + s.nulSkipped.toNat * 16 + s.echoShort.toNat * 32 + s.frameValid.toNat * 64 +
        s.code.retryable.toNat * 128 := by
  simp only [statusWord, toNat_append_eq_add, BitVec.toNat_ofBool, BitVec.ofNat_eq_ofNat, BitVec.toNat_ofNat]
  omega

theorem toNat_regRead_rxCrc (s : State) :
    (regRead s .rxCrc).toNat = s.rxComputed.toNat * 65536 + s.rxReceived.toNat :=
  toNat_append_eq_add s.rxComputed s.rxReceived

/-- The registers that keep what the host stores, with the widths of their fields (10_state.md R24 to R29, R32). -/
def rwFields : List (Reg × Nat) :=
  [(.slave, 8), (.startReg, 16), (.count, 16), (.byteCount, 8), (.dataLen, 9), (.crc, 16), (.rxLen, 11)]

/-- After a store an RW register reads as the low bits of the word stored. -/
theorem toNat_regRead_regStore (s : State) (w : Word) :
    ∀ p ∈ rwFields, (regRead (regStore s w p.1) p.1).toNat = w.toNat % 2 ^ p.2 := by
  have low (n : Nat) (hn : n ≤ 32) : ((w.setWidth n).setWidth 32).toNat = w.toNat % 2 ^ n := by
    rw [BitVec.toNat_setWidth_of_le hn, BitVec.toNat_setWidth]
  simp only [rwFields, List.forall_mem_cons, regRead, regStore, State.setCrc_crc]
  exact ⟨low 8 (by decide), low 16 (by decide), low 16 (by decide), low 8 (by decide), low 9 (by decide),
    low 16 (by decide), low 11 (by decide), by simp⟩

theorem rwFields_ne_cmd : ∀ p ∈ rwFields, p.1 ≠ .cmd := by decide

/-! ### The reserved offsets (10_state.md R38) -/

/-- No register lies above RX_CRC. -/
theorem find?_regMap_of_above {off : Nat} (h : 0x040 ≤ off) :
    regMap.find? (fun r => r.offset == off) = Option.none := by
  refine List.find?_eq_none.mpr fun r _ hr => ?_
  have hle := r.offset_le
  have heq : r.offset = off := beq_iff_eq.mp hr
  omega

theorem regionOf_reserved {off : Nat} (h : (0x040 ≤ off ∧ off < 0x100) ∨ (0x310 ≤ off ∧ off < 0x400)) :
    regionOf off = .reserved := by
  unfold regionOf
  rcases h with ⟨hlo, hhi⟩ | ⟨hlo, hhi⟩
  · rw [if_pos hhi, find?_regMap_of_above hlo]
  · rw [if_neg (by omega), if_neg (by omega), if_neg (by omega), if_neg (by omega), if_pos hhi]

/-! ### Extensionality of the canonical memory (log entry 4) -/

namespace Memory

/-- A canonical memory lists its first offset once: the rest of it holds no byte there or below. -/
theorem read_tail_of_wf {c : Host.Cell} {m : Memory} (h : Memory.wf (c :: m) = true) {x : Nat} (hx : x ≤ c.1) :
    Memory.read m x = Option.none := by
  simp only [Memory.wf, Bool.and_eq_true] at h
  exact read_of_above hx m h.1.2

theorem wf_tail {c : Host.Cell} {m : Memory} (h : Memory.wf (c :: m) = true) : Memory.wf m = true := by
  simp only [Memory.wf, Bool.and_eq_true] at h
  exact h.2

@[simp] theorem read_cons_self (c : Host.Cell) (m : Memory) : Memory.read (c :: m) c.1 = some c.2 := by
  simp [Memory.read]

theorem read_cons_of_ne {c : Host.Cell} {m : Memory} {x : Nat} (h : c.1 ≠ x) :
    Memory.read (c :: m) x = Memory.read m x := by
  simp [Memory.read, h]

/-- Nothing is listed below the first offset. -/
theorem read_cons_of_lt {c : Host.Cell} {m : Memory} (h : Memory.wf (c :: m) = true) {x : Nat} (hx : x < c.1) :
    Memory.read (c :: m) x = Option.none := by
  rw [read_cons_of_ne (by omega), read_tail_of_wf h (by omega)]

/-- Canonical memories that list the same bytes start with the same cell. -/
theorem head_eq_of_read_eq {c d : Host.Cell} {m n : Memory} (hm : Memory.wf (c :: m) = true)
    (hn : Memory.wf (d :: n) = true) (h : ∀ a, Memory.read (c :: m) a = Memory.read (d :: n) a) : c = d := by
  have hc := h c.1
  have hd := h d.1
  rw [read_cons_self] at hc hd
  rcases Nat.lt_trichotomy c.1 d.1 with hlt | heq | hgt
  · rw [read_cons_of_lt hn hlt] at hc
    cases hc
  · rw [heq, read_cons_self] at hc
    exact Prod.ext heq (Option.some.inj hc)
  · rw [read_cons_of_lt hm hgt] at hd
    cases hd

theorem eq_of_read_eq {m m' : Memory} (hm : Memory.wf m = true) (hm' : Memory.wf m' = true)
    (h : ∀ a, Memory.read m a = Memory.read m' a) : m = m' := by
  induction m generalizing m' with
  | nil =>
    cases m' with
    | nil => rfl
    | cons d n => simpa [Memory.read] using h d.1
  | cons c m ih =>
    cases m' with
    | nil => simpa [Memory.read] using h c.1
    | cons d n =>
      obtain rfl := head_eq_of_read_eq hm hm' h
      rw [ih (wf_tail hm) (wf_tail hm') fun a => ?_]
      by_cases ha : a ≤ c.1
      · rw [read_tail_of_wf hm ha, read_tail_of_wf hm' ha]
      · have hne : c.1 ≠ a := by omega
        rw [← read_cons_of_ne hne, h a, read_cons_of_ne hne]

end Memory

/-! ### The residue of the CRC (40_crc.md R116) -/

/-- Iterations that find only zero bits are right shifts. -/
theorem crcShifts_of_low_zero (n : Nat) (c : Half) (h : ∀ i, i < n → c.getLsbD i = false) :
    crcShifts n c = c >>> n := by
  induction n generalizing c with
  | zero => simp [crcShifts]
  | succ n ih =>
    have hshift : crcShift c = c >>> 1 := by rw [crcShift, h 0 (by omega)]; rfl
    have hlow : ∀ i, i < n → (c >>> 1).getLsbD i = false := fun i hi => by
      rw [BitVec.getLsbD_ushiftRight]
      exact h (1 + i) (by omega)
    rw [crcShifts, hshift, ih _ hlow, ← BitVec.shiftRight_add, Nat.add_comm]

/-- A byte equal to the low byte of the running CRC shifts that byte out. -/
theorem crcStep_low_byte (c : Half) : crcStep c (c.extractLsb' 0 8) = c >>> 8 := by
  have hlow : ∀ i, i < 8 → (c ^^^ (c.extractLsb' 0 8).setWidth 16).getLsbD i = false := fun i hi => by
    simp [hi, show i < 16 by omega]
  rw [crcStep, crcShifts_of_low_zero 8 _ hlow]
  refine BitVec.eq_of_getLsbD_eq fun i hi => ?_
  simp [BitVec.getLsbD_ushiftRight]

/-- Feeding a CRC its own two bytes, low byte first, leaves 0. -/
theorem crc16_crcBytes (c : Half) : crc16 c (crcBytes c) = 0 := by
  have hhigh : c.extractLsb' 8 8 = (c >>> 8).extractLsb' 0 8 := by
    refine BitVec.eq_of_getLsbD_eq fun i hi => ?_
    simp [BitVec.getLsbD_ushiftRight, BitVec.getLsbD_extractLsb']
  calc crc16 c (crcBytes c)
      = crcStep (crcStep c (c.extractLsb' 0 8)) (c.extractLsb' 8 8) := rfl
    _ = c >>> 8 >>> 8 := by rw [crcStep_low_byte, hhigh, crcStep_low_byte]
    _ = 0 := by rw [← BitVec.shiftRight_add]; exact BitVec.ushiftRight_eq_zero (by decide)

theorem crc16_append (c : Half) (p q : List Byte) : crc16 c (p ++ q) = crc16 (crc16 c p) q := by
  induction p generalizing c with
  | nil => rfl
  | cons b p ih => exact ih _

/-- A sequence followed by its own CRC has CRC 0. -/
theorem crc16_append_crcBytes (c : Half) (f : List Byte) : crc16 c (f ++ crcBytes (crc16 c f)) = 0 := by
  rw [crc16_append, crc16_crcBytes]

/-! ### What the invariant depends on -/

theorem isBufferByte_iff {a : Nat} :
    isBufferByte a = true ↔
      (0x100 ≤ a ∧ a < 0x200) ∨ (0x200 ≤ a ∧ a < 0x308) ∨ (0x400 ≤ a ∧ a < 0x800) := by
  simp only [isBufferByte, Bool.or_eq_true, Bool.and_eq_true, decide_eq_true_eq, or_assoc]
  exact Iff.rfl

/-- A retained frame fits TXBUF. -/
theorem FrameInv.txLen_le {s : State} (h : FrameInv s) (hv : s.frameValid = true) : s.txLen.toNat ≤ 264 := by
  obtain ⟨-, hlen, -⟩ := h.2 hv
  have hbc := (s.txBuf 6).isLt
  omega

/-- The frame's part of the invariant depends on the frame registers and the bytes of TXBUF alone. -/
theorem FrameInv.of_same {s t : State} (h : FrameInv s) (hf : SameFrame s t)
    (hb : ∀ a, txBase ≤ a → a < txBase + 264 → t.byte a = s.byte a) : FrameInv t := by
  obtain ⟨hv, hl, hc⟩ := hf
  refine ⟨by rw [hv, hl, hc]; exact h.1, fun htv => ?_⟩
  have hsv : s.frameValid = true := hv ▸ htv
  have hle := h.txLen_le hsv
  have h1 : t.txBuf 1 = s.txBuf 1 := hb _ (by decide) (by decide)
  have h6 : t.txBuf 6 = s.txBuf 6 := hb _ (by decide) (by decide)
  have hframe : t.frame = s.frame := by
    rw [State.frame, State.frame, hl]
    exact State.bytes_congr _ fun x hlo hhi => hb x hlo (by omega)
  rw [h1, h6, hframe, hl, hc]
  exact h.2 hsv

/-- The places that PARSE names: the candidate's and the payload's (10_state.md R33 to R36). -/
def SamePlaces (s t : State) : Prop :=
  t.respOff = s.respOff ∧ t.respLen = s.respLen ∧ t.payloadOff = s.payloadOff ∧ t.payloadLen = s.payloadLen

theorem ParseInv.of_same {s t : State} (h : ParseInv s) (hp : SamePlaces s t) : ParseInv t := by
  obtain ⟨hro, hrl, hpo, hpl⟩ := hp
  rw [ParseInv, hro, hrl, hpo, hpl]
  exact h

/-- Everything the invariant speaks of but the parse results. -/
def SameStorage (s t : State) : Prop := t.mem = s.mem ∧ t.resets = s.resets ∧ SameFrame s t

theorem SameStorage.byte_eq {s t : State} (h : SameStorage s t) (a : Nat) : t.byte a = s.byte a := by
  obtain ⟨hm, hr, -⟩ := h
  simp only [State.byte, hm, hr]

/-- New parse results in an unchanged storage keep the invariant if they lie in RXBUF. -/
theorem Inv.of_parseInv {s t : State} (h : Inv s) (hs : SameStorage s t) (hp : ParseInv t) : Inv t := by
  obtain ⟨hwf, hframe, -⟩ := h
  have hbytes := hs.byte_eq
  obtain ⟨hm, -, hf⟩ := hs
  exact ⟨hm ▸ hwf, hframe.of_same hf fun a _ _ => hbytes a, hp⟩

theorem Inv.of_same {s t : State} (h : Inv s) (hs : SameStorage s t) (hp : SamePlaces s t) : Inv t := by
  have ⟨_, _, hparse⟩ := h
  exact h.of_parseInv hs (hparse.of_same hp)

/-- No candidate and no payload lie in RXBUF. -/
theorem parseInv_of_zero {t : State} (hro : t.respOff = 0) (hrl : t.respLen = 0) (hpo : t.payloadOff = 0)
    (hpl : t.payloadLen = 0) : ParseInv t := by
  refine ⟨?_, .inl ⟨hpo, hpl⟩⟩
  rw [hro, hrl]
  decide

/-- An empty memory, no frame and no parse results: what a reset leaves (10_state.md R45). -/
theorem inv_of_cleared {t : State} (hm : t.mem = []) (hv : t.frameValid = false) (hl : t.txLen = 0)
    (hc : t.frameFc = 0) (hp : ParseInv t) : Inv t := by
  refine ⟨by rw [hm]; rfl, ⟨fun _ => ⟨hl, hc⟩, fun htv => ?_⟩, hp⟩
  rw [hv] at htv
  cases htv

theorem inv_reset : Inv State.reset :=
  inv_of_cleared rfl rfl rfl rfl (parseInv_of_zero rfl rfl rfl rfl)

theorem inv_platformReset (s : State) : Inv s.platformReset :=
  inv_of_cleared rfl rfl rfl rfl (parseInv_of_zero rfl rfl rfl rfl)

/-! ### The updates that touch no part of the invariant -/

section
variable {s : State} (h : Inv s)
include h

theorem Inv.setPending (es : List HostEvent) : Inv (s.setPending es) :=
  h.of_same ⟨rfl, rfl, rfl, rfl, rfl⟩ ⟨rfl, rfl, rfl, rfl⟩

theorem Inv.setReadData (w : Word) : Inv (s.setReadData w) :=
  h.of_same ⟨rfl, rfl, rfl, rfl, rfl⟩ ⟨rfl, rfl, rfl, rfl⟩

theorem Inv.report (c : StatusCode) : Inv (s.report c) :=
  h.of_same ⟨rfl, rfl, rfl, rfl, rfl⟩ ⟨rfl, rfl, rfl, rfl⟩

theorem Inv.setCrc (c : Half) : Inv (s.setCrc c) :=
  h.of_same ⟨rfl, rfl, rfl, rfl, rfl⟩ ⟨rfl, rfl, rfl, rfl⟩

theorem Inv.setRxCrc (r c : Half) : Inv (s.setRxCrc r c) :=
  h.of_same ⟨rfl, rfl, rfl, rfl, rfl⟩ ⟨rfl, rfl, rfl, rfl⟩

theorem Inv.regStore (w : Word) (r : Reg) : Inv (regStore s w r) := by
  cases r <;> exact h.of_same ⟨rfl, rfl, rfl, rfl, rfl⟩ ⟨rfl, rfl, rfl, rfl⟩

end

/-! ### A store of a buffer word (20_memory.md R62, R63) -/

/-- A word store to DATABUF or RXBUF keeps the invariant: it touches no byte of TXBUF. -/
theorem Inv.storeWord {s : State} (h : Inv s) {off : Nat} (w : Word) (hal : off % 4 = 0) (hw : off < 0x800)
    (hoff : (0x100 ≤ off ∧ off < 0x200) ∨ 0x400 ≤ off) : Inv (s.storeWord off w) := by
  obtain ⟨hwf, hframe, hparse⟩ := h
  have htx : ∀ a, txBase ≤ a → a < txBase + 264 → (s.storeWord off w).byte a = s.byte a := fun a hlo hhi => by
    rw [byte_storeWord]
    exact if_neg (by simp only [txBase] at hlo hhi; omega)
  have hbuf : ∀ x, off ≤ x → x < off + (laneBytes w).length → isBufferByte x = true := fun x hlo hhi => by
    have hlen : (laneBytes w).length = 4 := rfl
    exact isBufferByte_iff.mpr (by omega)
  exact ⟨Memory.wf_writeBytes _ _ hbuf hwf, hframe.of_same ⟨rfl, rfl, rfl⟩ htx,
    hparse.of_same ⟨rfl, rfl, rfl, rfl⟩⟩

/-! ### The framer (41_framer.md R130 to R136) -/

section
variable (fc : Byte) (body : List Byte) (s : State)

/-- The bytes of TXBUF that `emit` writes before the CRC: address, function code and body. -/
theorem txBuf_emit {i : Nat} (hi : i < body.length + 2) :
    some ((emit fc body s).txBuf i) = (s.slave :: fc :: body)[i]? := by
  rw [State.txBuf, ← State.getElem?_bytes _ (body.length + 4) txBase i (by omega), bytes_emit,
    List.getElem?_append_left (by simp only [List.length_cons]; exact hi)]

theorem frame_emit (h : body.length + 4 < 512) :
    (emit fc body s).frame =
      (s.slave :: fc :: body) ++ crcBytes (crc16 Config.crcInit (s.slave :: fc :: body)) := by
  rw [State.frame, emit_txLen_toNat fc body s h, bytes_emit]

/-- `emit` writes bytes of TXBUF alone, so the memory stays canonical. -/
theorem wf_mem_emit (hlen : body.length + 4 ≤ 264) (hwf : Memory.wf s.mem = true) :
    Memory.wf (emit fc body s).mem = true := by
  rw [emit_mem]
  refine Memory.wf_writeBytes _ _ (fun x hlo hhi => isBufferByte_iff.mpr ?_) hwf
  simp only [txBase, crcBytes, List.length_append, List.length_cons, List.length_nil] at hlo hhi
  omega

theorem samePlaces_emit : SamePlaces s (emit fc body s) := by simp [SamePlaces]

end

/-- What `emit` retains meets the invariant when the frame has the length of its kind (30_encoding.md R83, R92). -/
theorem Inv.emit {s : State} (h : Inv s) {fc : Byte} {body : List Byte} (hlen : body.length + 4 ≤ 264)
    (hkind : ((fc = 0x03 ∨ fc = 0x04) ∧ body.length + 4 = 8) ∨
      (fc = 0x10 ∧ body.length + 4 = 9 + ((emit fc body s).txBuf 6).toNat)) : Inv (emit fc body s) := by
  obtain ⟨hwf, -, hparse⟩ := h
  refine ⟨wf_mem_emit fc body s hlen hwf, ⟨nofun, fun _ => ⟨?_, ?_, ?_⟩⟩,
    hparse.of_same (samePlaces_emit fc body s)⟩
  · have hcode := txBuf_emit fc body s (i := 1) (by omega)
    exact Option.some.inj hcode
  · rw [emit_frameFc, emit_txLen_toNat fc body s (by omega)]
    exact hkind
  · rw [frame_emit fc body s (by omega)]
    exact crc16_append_crcBytes _ _

theorem Inv.emit_rdBody {s : State} (h : Inv s) {fc : Byte} (hfc : fc = 0x03 ∨ fc = 0x04) :
    Inv (Machine.emit fc (rdBody s) s) :=
  h.emit (by rw [length_rdBody]; decide) (.inl ⟨hfc, by rw [length_rdBody]⟩)

theorem Inv.emit_wmrBody {s : State} (h : Inv s) : Inv (Machine.emit 0x10 (wmrBody s) s) := by
  have hlen := length_wmrBody s
  have hbc := s.byteCount.isLt
  have h6 : (Machine.emit 0x10 (wmrBody s) s).txBuf 6 = s.byteCount :=
    Option.some.inj (txBuf_emit 0x10 (wmrBody s) s (i := 6) (by omega))
  exact h.emit (by omega) (.inr ⟨rfl, by rw [h6]; omega⟩)

/-- A failed BUILD drops the frame and keeps the parse results. -/
theorem Inv.buildFail {s : State} (h : Inv s) : Inv (buildFail s) := by
  obtain ⟨hwf, -, hparse⟩ := h
  exact ⟨hwf, ⟨fun _ => ⟨rfl, rfl⟩, nofun⟩, hparse.of_same ⟨rfl, rfl, rfl, rfl⟩⟩

/-! ### The parser (42_parser.md R150 to R159) -/

theorem sameStorage_parseAbort (c : StatusCode) (s : State) : SameStorage s (parseAbort c s) := by
  simp [SameStorage, SameFrame]

theorem sameStorage_locateCandidate (s : State) : SameStorage s (locateCandidate s) := by
  simp [SameStorage, SameFrame]

theorem Inv.parseAbort {s : State} (h : Inv s) (c : StatusCode) : Inv (parseAbort c s) :=
  h.of_parseInv (sameStorage_parseAbort c s) (parseInv_of_zero rfl rfl rfl rfl)

theorem toNat_locateCandidate_respOff (s : State) : (locateCandidate s).respOff.toNat = candidateOff s := by
  rw [locateCandidate_respOff, BitVec.toNat_ofNat, Nat.mod_eq_of_lt (candidate_lt s).1]

theorem toNat_locateCandidate_respLen (s : State) : (locateCandidate s).respLen.toNat = candidateLen s := by
  rw [locateCandidate_respLen, BitVec.toNat_ofNat, Nat.mod_eq_of_lt (candidate_lt s).2]

/-- The candidate lies among the received bytes, so in RXBUF. -/
theorem locateCandidate_le {s : State} (hn : rxCount s ≤ 1024) :
    (locateCandidate s).respOff.toNat + (locateCandidate s).respLen.toNat ≤ Config.rxMax := by
  rw [toNat_locateCandidate_respOff, toNat_locateCandidate_respLen, candidateOff_add_len]
  exact hn

theorem Inv.locateCandidate {s : State} (h : Inv s) (hn : rxCount s ≤ 1024) : Inv (locateCandidate s) :=
  h.of_parseInv (sameStorage_locateCandidate s) ⟨locateCandidate_le hn, .inl ⟨rfl, rfl⟩⟩

/-- A payload that starts after the three bytes before it and leaves the CRC's two keeps the invariant (42_parser.md R158). -/
theorem Inv.setPayload {s : State} (h : Inv s) {off : BitVec 11} {len : Byte}
    (hoff : off.toNat = s.respOff.toNat + 3) (hlen : s.respLen.toNat = len.toNat + 5) :
    Inv (s.setPayload off len) := by
  have ⟨_, _, hle, _⟩ := h
  exact h.of_parseInv ⟨rfl, rfl, rfl, rfl, rfl⟩ ⟨hle, .inr ⟨hoff, hlen⟩⟩

theorem Inv.parseCandidate {s : State} (h : Inv s) (hn : rxCount s ≤ 1024) : Inv (parseCandidate s) := by
  have hloc := h.locateCandidate hn
  have hrec : Inv (recordCrc s (Machine.locateCandidate s)) := (hloc.setCrc _).setRxCrc _ _
  rcases parseCandidate_cases s with ⟨-, heq⟩ | ⟨-, -, heq⟩ | ⟨-, -, heq⟩ | ⟨-, -, -, -, heq⟩ |
    ⟨-, -, -, hb, heq⟩ | ⟨-, -, -, heq⟩ <;> rw [heq]
  · exact hloc.report _
  · exact hloc.report _
  · exact hrec.report _
  · exact hrec.report _
  · refine (hrec.setPayload ?_ ?_).report _
    · have hle := candidateOff_le s
      rw [recordCrc_respOff, toNat_locateCandidate_respOff, BitVec.toNat_ofNat, Nat.mod_eq_of_lt (by omega)]
    · rw [recordCrc_respLen, toNat_locateCandidate_respLen, hb]
  · exact hrec.report _

/-! ### Commands, events and steps -/

section
variable {s t : State} (h : Inv s)
include h

theorem Inv.execParse (ht : execParse s = .next t) : Inv t := by
  rcases execParse_cases s with ⟨-, heq⟩ | ⟨-, -, heq⟩ | ⟨-, hn, heq⟩ <;> rw [heq] at ht <;> cases ht
  · exact h.parseAbort _
  · exact h.parseAbort _
  · exact h.parseCandidate hn

theorem Inv.execBuildWmr (ht : execBuildWmr s = .next t) : Inv t := by
  rcases execBuildWmr_cases s with ⟨-, heq⟩ | ⟨-, heq⟩ <;> rw [heq] at ht <;> cases ht
  · exact h.emit_wmrBody
  · exact h.buildFail

theorem Inv.exec {i : Instr} (ht : exec i s = .next t) : Inv t := by
  cases i with
  | nop => cases ht; exact h
  | buildRhr => cases ht; exact h.emit_rdBody (.inl rfl)
  | buildRir => cases ht; exact h.emit_rdBody (.inr rfl)
  | buildWmr => exact h.execBuildWmr ht
  | crcReset => cases ht; exact (h.setCrc _).report _
  | crcByte b => cases ht; exact (h.setCrc _).report _
  | parse => exact h.execParse ht

theorem Inv.runCommand {w : Word} (ht : runCommand w s = .next t) : Inv t := by
  rcases runCommand_cases w s with ⟨i, -, heq⟩ | ⟨e, -, heq⟩ <;> rw [heq] at ht
  · exact h.exec ht
  · cases ht
    exact h.report _

theorem Inv.busWrite {off : Nat} {w : Word} (hal : off % 4 = 0) (hw : off < 0x800)
    (ht : busWrite s off w = .next t) : Inv t := by
  rcases busWrite_cases s off w with ⟨-, heq⟩ | ⟨r, -, -, heq⟩ | ⟨hlo, hhi, heq⟩ | ⟨hlo, heq⟩ | heq <;>
    rw [heq] at ht
  · exact h.runCommand ht
  · cases ht
    exact h.regStore w r
  · cases ht
    exact h.storeWord w hal hw (.inl ⟨hlo, hhi⟩)
  · cases ht
    exact h.storeWord w hal hw (.inr hlo)
  · cases ht
    exact h

theorem Inv.onEvent {e : HostEvent} (ht : onEvent e s = .next t) : Inv t := by
  cases e with
  | reset =>
    cases ht
    exact inv_platformReset s
  | read off width =>
    cases hr : accessRefusal off width with
    | some r =>
      rw [onEvent_read_refused hr] at ht
      cases ht
    | none =>
      rw [onEvent_read hr] at ht
      cases ht
      exact h.setReadData _
  | write off width w =>
    cases hr : accessRefusal off width with
    | some r =>
      rw [onEvent_write_refused hr] at ht
      cases ht
    | none =>
      rw [onEvent_write hr] at ht
      obtain ⟨hw, -, hal⟩ := accessRefusal_eq_none.mp hr
      exact h.busWrite hal hw ht

theorem Inv.step (ht : step s = .next t) : Inv t := by
  cases hp : s.pending with
  | nil =>
    rw [step_idle hp] at ht
    cases ht
    exact h
  | cons e es =>
    rw [step_event hp] at ht
    exact (h.setPending es).onEvent ht

end

/-! ### The statements -/

/-- Settles O47: one lemma for each event, command and named update of the state (`Inv.step`). -/
theorem stepKeepsInvariant : Obligations.StepKeepsInvariant := fun _ _ h ht => h.step ht

/-- Settles O49, by extensionality of the canonical form: equal first cells, then the rest by induction. -/
theorem equalMemoriesAreEqualData : Obligations.EqualMemoriesAreEqualData :=
  fun _ _ hm hm' h => Memory.eq_of_read_eq hm hm' h

/-- Settles O37: the value of the STATUS word as a sum of its fields, then the code's number and its retryable bit. -/
theorem statusRegisterFields : Obligations.StatusRegisterFields := by
  intro s
  have hread : busRead s 0x004 = statusWord s := busRead_reg s .status
  have hbit (b : Bool) (n : Nat) : b.toNat * n = if b = true then n else 0 := by cases b <;> simp
  rw [hread, toNat_statusWord, hbit, hbit, hbit, hbit]
  cases s.code <;> rfl

/-- Settles O38: each offset names its register, and a field of at most 32 bits reads as its value. -/
theorem registerReadValues : Obligations.RegisterReadValues := by
  intro s
  have field {n : Nat} (hn : n ≤ 32) (r : Reg) (x : BitVec n) (hr : regRead s r = x.setWidth 32) :
      (busRead s r.offset).toNat = x.toNat := by
    rw [busRead_reg, hr, BitVec.toNat_setWidth_of_le hn]
  refine ⟨busRead_reg s .cmd, field (by decide) .slave _ rfl, field (by decide) .startReg _ rfl,
    field (by decide) .count _ rfl, field (by decide) .byteCount _ rfl, field (by decide) .dataLen _ rfl,
    field (by decide) .crc _ rfl, field (by decide) .txLen _ rfl, field (by decide) .frameFc _ rfl,
    field (by decide) .rxLen _ rfl, field (by decide) .respOff _ rfl, field (by decide) .respLen _ rfl,
    field (by decide) .payloadOff _ rfl, field (by decide) .payloadLen _ rfl, ?_⟩
  rw [← toNat_regRead_rxCrc, ← busRead_reg]
  rfl

/-- Settles O39: a store to an RW register is `regStore`, whose field holds the word's low bits. -/
theorem registerStores : Obligations.RegisterStores := by
  intro s w
  have readBack : ∀ p ∈ rwFields, ∃ t, onEvent (.write p.1.offset 4 w) s = .next t ∧
      (busRead t p.1.offset).toNat = w.toNat % 2 ^ p.2 := fun p hp =>
    ⟨_, onEvent_write_reg s w (rwFields_ne_cmd p hp), by rw [busRead_reg, toNat_regRead_regStore s w p hp]⟩
  simp only [BitVec.ofNat_toNat]
  refine ⟨onEvent_write_reg s w (r := .slave) nofun, onEvent_write_reg s w (r := .startReg) nofun,
    onEvent_write_reg s w (r := .count) nofun, onEvent_write_reg s w (r := .byteCount) nofun,
    onEvent_write_reg s w (r := .dataLen) nofun, onEvent_write_reg s w (r := .crc) nofun,
    onEvent_write_reg s w (r := .rxLen) nofun, ?_, fun off hal hoff => ?_⟩
  · intro p hp
    obtain ⟨q, hq, rfl⟩ : ∃ q ∈ rwFields, (q.1.offset, q.2) = p := List.mem_map.mp hp
    exact readBack q hq
  · exact onEvent_read (accessRefusal_eq_none.mpr ⟨by omega, rfl, hal⟩)

/-- Settles O41: those offsets lie in the reserved region, where a read answers 0 and a write the same state. -/
theorem reservedOffsets : Obligations.ReservedOffsets := by
  intro s off w hal hoff
  have hregion := regionOf_reserved hoff
  refine ⟨by rw [busRead, hregion], ?_⟩
  rw [onEvent_write (accessRefusal_eq_none.mpr ⟨by omega, rfl, hal⟩), busWrite, hregion]

/-- Settles O46: nothing is written, no frame retained and nothing parsed at reset. -/
theorem resetMeetsInvariant : Obligations.ResetMeetsInvariant := inv_reset

end Sys2Proof.Machine

/-! SUPPORT. The family of 20_memory.md: which accesses the host bus refuses, that every defined write completes, the lanes of
the buffer words, and what a repeated access does. -/

namespace Sys2Proof.Machine

/-! ### Commands and defined writes complete (60_exceptions.md R180) -/

theorem exec_completes (i : Instr) (s : State) : ∃ t, exec i s = .next t := by
  cases i with
  | nop => exact ⟨_, exec_nop s⟩
  | buildRhr => exact ⟨_, exec_buildRhr s⟩
  | buildRir => exact ⟨_, exec_buildRir s⟩
  | buildWmr =>
    rw [exec_buildWmr]
    rcases execBuildWmr_cases s with ⟨-, heq⟩ | ⟨-, heq⟩ <;> exact ⟨_, heq⟩
  | crcReset => exact ⟨_, exec_crcReset s⟩
  | crcByte b => exact ⟨_, exec_crcByte b s⟩
  | parse =>
    rw [exec_parse]
    rcases execParse_cases s with ⟨-, heq⟩ | ⟨-, -, heq⟩ | ⟨-, -, heq⟩ <;> exact ⟨_, heq⟩

theorem runCommand_completes (w : Word) (s : State) : ∃ t, runCommand w s = .next t := by
  rcases runCommand_cases w s with ⟨i, -, heq⟩ | ⟨e, -, heq⟩
  · rw [heq]
    exact exec_completes i s
  · exact ⟨_, heq⟩

theorem busWrite_completes (s : State) (off : Nat) (w : Word) : ∃ t, busWrite s off w = .next t := by
  rcases busWrite_cases s off w with ⟨-, heq⟩ | ⟨r, -, -, heq⟩ | ⟨-, -, heq⟩ | ⟨-, heq⟩ | heq
  · rw [heq]
    exact runCommand_completes w s
  all_goals exact ⟨_, heq⟩

/-! ### Refused accesses (R64, R65) -/

theorem accessRefusal_ne_none {off width : Nat} :
    accessRefusal off width ≠ Option.none ↔ width ≠ 4 ∨ off % 4 ≠ 0 ∨ 0x800 ≤ off := by
  rw [Ne, accessRefusal_eq_none]
  omega

theorem exists_onEvent_read_refused {off width : Nat} {s : State} :
    (∃ r, onEvent (.read off width) s = .refused r) ↔ accessRefusal off width ≠ Option.none := by
  cases h : accessRefusal off width with
  | none => simp [onEvent_read h]
  | some r => simp [onEvent_read_refused h]

/-- The bus alone refuses a write: a defined one completes. -/
theorem exists_onEvent_write_refused {off width : Nat} {w : Word} {s : State} :
    (∃ r, onEvent (.write off width w) s = .refused r) ↔ accessRefusal off width ≠ Option.none := by
  cases h : accessRefusal off width with
  | none =>
    obtain ⟨t, ht⟩ := busWrite_completes s off w
    simp [onEvent_write h, ht]
  | some r => simp [onEvent_write_refused h]

/-! ### The buffers' regions of the window (R60) -/

theorem regionOf_dataBuf {off : Nat} (hlo : 0x100 ≤ off) (hhi : off < 0x200) : regionOf off = .dataBuf := by
  rw [regionOf, if_neg (by omega), if_pos hhi]

theorem regionOf_txBuf {off : Nat} (hlo : 0x200 ≤ off) (hhi : off < 0x308) : regionOf off = .txBuf := by
  rw [regionOf, if_neg (by omega), if_neg (by omega), if_pos hhi]

theorem regionOf_txPad {off : Nat} (hlo : 0x308 ≤ off) (hhi : off < 0x310) : regionOf off = .txPad := by
  rw [regionOf, if_neg (by omega), if_neg (by omega), if_neg (by omega), if_pos hhi]

theorem regionOf_rxBuf {off : Nat} (hlo : 0x400 ≤ off) : regionOf off = .rxBuf := by
  rw [regionOf, if_neg (by omega), if_neg (by omega), if_neg (by omega), if_neg (by omega), if_neg (by omega)]

/-- A word of a buffer's region reads as its four bytes. -/
theorem busRead_buffer (s : State) {off : Nat}
    (h : (0x100 ≤ off ∧ off < 0x200) ∨ (0x200 ≤ off ∧ off < 0x308) ∨ 0x400 ≤ off) :
    busRead s off = s.word off := by
  rcases h with ⟨hlo, hhi⟩ | ⟨hlo, hhi⟩ | hlo
  · rw [busRead, regionOf_dataBuf hlo hhi]
  · rw [busRead, regionOf_txBuf hlo hhi]
  · rw [busRead, regionOf_rxBuf hlo]

/-- A write to DATABUF or RXBUF stores its word. -/
theorem busWrite_buffer (s : State) {off : Nat} (w : Word) (h : (0x100 ≤ off ∧ off < 0x200) ∨ 0x400 ≤ off) :
    busWrite s off w = .next (s.storeWord off w) := by
  rcases h with ⟨hlo, hhi⟩ | hlo
  · rw [busWrite, regionOf_dataBuf hlo hhi]
  · rw [busWrite, regionOf_rxBuf hlo]

/-- A write to the TXBUF window is ignored, in its last two words as well (10_state.md R41). -/
theorem busWrite_txWindow (s : State) {off : Nat} (w : Word) (hlo : 0x200 ≤ off) (hhi : off < 0x310) :
    busWrite s off w = .next s := by
  by_cases h : off < 0x308
  · rw [busWrite, regionOf_txBuf hlo h]
  · rw [busWrite, regionOf_txPad (by omega) hhi]

/-! ### The registers that ignore a store (R62) -/

def readOnlyRegs : List Reg :=
  [.status, .txLen, .frameFc, .respOff, .respLen, .payloadOff, .payloadLen, .rxCrc]

theorem onEvent_write_readOnlyReg (s : State) (w : Word) :
    ∀ r ∈ readOnlyRegs, onEvent (.write r.offset 4 w) s = .next s := by
  simp only [readOnlyRegs, List.forall_mem_cons]
  exact ⟨onEvent_write_reg s w nofun, onEvent_write_reg s w nofun, onEvent_write_reg s w nofun,
    onEvent_write_reg s w nofun, onEvent_write_reg s w nofun, onEvent_write_reg s w nofun,
    onEvent_write_reg s w nofun, onEvent_write_reg s w nofun, nofun⟩

/-! ### The lanes of a buffer word (R63) -/

theorem toNat_packWord (b0 b1 b2 b3 : Byte) :
    (packWord b0 b1 b2 b3).toNat =
      b0.toNat + b1.toNat * 2 ^ 8 + b2.toNat * 2 ^ 16 + b3.toNat * 2 ^ 24 := by
  simp only [packWord, toNat_append_eq_add]
  omega

theorem extractLsb'_eq_ofNat_div (w : Word) (start : Nat) :
    w.extractLsb' start 8 = BitVec.ofNat 8 (w.toNat / 2 ^ start) := by
  rw [BitVec.extractLsb', Nat.shiftRight_eq_div_pow]

/-- Lane `j` of a word holds its bits from `8 * j` on. -/
theorem getD_laneBytes (w : Word) {j : Nat} (hj : j < 4) :
    (laneBytes w).getD j 0 = BitVec.ofNat 8 (w.toNat / 2 ^ (8 * j)) := by
  rw [← extractLsb'_eq_ofNat_div]
  interval_cases j <;> rfl

theorem byte_storeWord_lane (s : State) (off : Nat) (w : Word) {j : Nat} (hj : j < 4) :
    (s.storeWord off w).byte (off + j) = BitVec.ofNat 8 (w.toNat / 2 ^ (8 * j)) := by
  rw [byte_storeWord, if_pos (by omega), Nat.add_sub_cancel_left, getD_laneBytes w hj]

theorem sameBytesOutside_storeWord (s : State) (off : Nat) (w : Word) :
    SameBytesOutside off 4 s (s.storeWord off w) := fun a ha => by
  rw [byte_storeWord, if_neg (by omega)]

/-! ### Repeated writes (R66) -/

theorem regStore_twice (s : State) (w : Word) (r : Reg) : regStore (regStore s w r) w r = regStore s w r := by
  cases r <;> rfl

theorem storeWord_twice (s : State) (off : Nat) (w : Word) :
    (s.storeWord off w).storeWord off w = s.storeWord off w := by
  have hmem : (s.storeWord off w).mem = s.mem.writeBytes off (laneBytes w) := rfl
  rw [State.storeWord, hmem, Memory.writeBytes_twice]
  rfl

/-- Where a write stores to a register other than CMD or to a buffer, or is ignored, writing again changes nothing more. -/
theorem busWrite_twice {s t : State} {off : Nat} {w : Word} (hoff : off ≠ 0) (ht : busWrite s off w = .next t) :
    busWrite t off w = .next t := by
  rcases busWrite_cases s off w with ⟨h0, -⟩ | ⟨r, hr, rfl, heq⟩ | ⟨hlo, hhi, heq⟩ | ⟨hlo, heq⟩ | heq
  · exact absurd h0 hoff
  · cases heq.symm.trans ht
    rw [← onEvent_write (accessRefusal_reg r), onEvent_write_reg _ w hr, regStore_twice]
  · cases heq.symm.trans ht
    rw [busWrite_buffer _ w (.inl ⟨hlo, hhi⟩), storeWord_twice]
  · cases heq.symm.trans ht
    rw [busWrite_buffer _ w (.inr hlo), storeWord_twice]
  · cases heq.symm.trans ht
    exact ht

/-- CRC_BYTE with the operand 0x00 (40_crc.md R113): its write to CMD steps the running CRC each time. -/
theorem onEvent_write_crcByte_zero (s : State) :
    onEvent (.write 0x000 4 0x00000081) s = .next ((s.setCrc (crcStep s.crc 0x00)).report .ok) := rfl

/-- Two zero bytes leave another CRC than one. -/
theorem crcStep_zero_twice_ne : crcStep (crcStep Config.crcInit 0x00) 0x00 ≠ crcStep Config.crcInit 0x00 := by
  have hone : crcStep Config.crcInit 0x00 = 0x40BF := by decide
  rw [hone]
  decide

/-! ### The statements -/

/-- Settles O42: a buffer word reads as `packWord` of its bytes, and a store writes the lanes of its word alone. -/
theorem bufferWordLanes : Obligations.BufferWordLanes := by
  refine ⟨fun s base k h => ?_, fun s k hk => ?_, fun s base k w h => ?_⟩
  · rw [busRead_buffer s (by omega), State.word, toNat_packWord]
  · rw [busRead, regionOf_txPad (by omega) (by omega)]
  · have hwrite : onEvent (.write (base + 4 * k) 4 w) s = .next (s.storeWord (base + 4 * k) w) := by
      rw [onEvent_write (accessRefusal_eq_none.mpr ⟨by omega, rfl, by omega⟩), busWrite_buffer s w (by omega)]
    exact ⟨_, hwrite, rfl, fun j hj => byte_storeWord_lane s _ w hj, sameBytesOutside_storeWord s _ w⟩

/-- Settles O44: a defined read sets the latch alone, `busWrite_twice` repeats a write, and CRC_BYTE written twice from
reset steps the CRC twice. -/
theorem sideEffectsOfAccesses : Obligations.SideEffectsOfAccesses := by
  refine ⟨fun s off hal hw => onEvent_read (accessRefusal_eq_none.mpr ⟨hw, rfl, hal⟩),
    fun s t off w hoff ht => ?repeated,
    State.reset, _, _, 0x00000081, onEvent_write_crcByte_zero _, onEvent_write_crcByte_zero _,
    ?command⟩
  case repeated =>
    cases hr : accessRefusal off 4 with
    | some r =>
      rw [onEvent_write_refused hr] at ht
      cases ht
    | none =>
      rw [onEvent_write hr] at ht ⊢
      exact busWrite_twice hoff ht
  case command =>
    have hcrc : State.reset.crc = Config.crcInit := rfl
    simp only [State.report_crc, State.setCrc_crc, hcrc]
    exact crcStep_zero_twice_ne

/-- Settles O40: the eight offsets are those of the read-only registers; the rest is the TXBUF window. -/
theorem readOnlyStoresIgnored : Obligations.ReadOnlyStoresIgnored := by
  intro s off w hal hoff
  rcases hoff with hreg | ⟨hlo, hhi⟩
  · obtain ⟨r, hr, rfl⟩ : ∃ r ∈ readOnlyRegs, r.offset = off := List.mem_map.mp hreg
    exact onEvent_write_readOnlyReg s w r hr
  · rw [onEvent_write (accessRefusal_eq_none.mpr ⟨by omega, rfl, hal⟩), busWrite_txWindow s w hlo hhi]

/-- Settles O43: reads and writes are refused by `accessRefusal` alone. -/
theorem undefinedAccessesRefused : Obligations.UndefinedAccessesRefused := fun _ _ _ _ =>
  ⟨exists_onEvent_read_refused.trans accessRefusal_ne_none,
    exists_onEvent_write_refused.trans accessRefusal_ne_none⟩

end Sys2Proof.Machine

/-! SUPPORT. The family of 30_encoding.md: which command a word selects, the write request frame, the read responses that PARSE
accepts, the commands that write the fields of STATUS, and what the expansion of rx.load leaves. -/

namespace Sys2Proof

/-! ### The fields of the command word (30_encoding.md R89) -/

theorem toNat_opField (w : Word) : (opField w).toNat = w.toNat % 256 := by
  rw [opField, Machine.extractLsb'_eq_ofNat_div, BitVec.toNat_ofNat, pow_zero, Nat.div_one]

theorem toNat_argField (w : Word) : (argField w).toNat = w.toNat / 256 % 256 := by
  exact congrArg BitVec.toNat (Machine.extractLsb'_eq_ofNat_div w 8)

/-! ### Which command a word selects (R90, R91) -/

/-- The OP values of the seven commands (R90). -/
def commandOps : List Byte := [0x00, 0x03, 0x04, 0x10, 0x80, 0x81, 0x82]

theorem opcode_mem_commandOps (i : Instr) : i.opcode ∈ commandOps := by
  cases i <;> simp [Instr.opcode, commandOps]

/-- A word selects a command by its OP alone; CRC_BYTE takes the ARG byte as its operand. -/
theorem decode_eq_ok {w : Word} {i : Instr} :
    decode w = .ok i ↔ opField w = i.opcode ∧ ∀ b, i = .crcByte b → b = argField w := by
  constructor
  · intro h
    dsimp only [decode] at h
    split_ifs at h with h0 h1 h2 h3 h4 h5 h6 <;> cases h
    · exact ⟨h0, nofun⟩
    · exact ⟨h1, nofun⟩
    · exact ⟨h2, nofun⟩
    · exact ⟨h3, nofun⟩
    · exact ⟨h4, nofun⟩
    · exact ⟨h5, fun b hb => (Instr.crcByte.inj hb).symm⟩
    · exact ⟨h6, nofun⟩
  · rintro ⟨hop, harg⟩
    cases i with
    | crcByte b => obtain rfl := harg b rfl; simp [decode, hop, Instr.opcode]
    | _ => simp [decode, hop, Instr.opcode]

/-- The one answer of the decoder that is no command: the reserved OP it has seen. -/
theorem decode_eq_error {w : Word} {op : Byte} :
    decode w = .error (.reservedOp op) ↔ op = opField w ∧ opField w ∉ commandOps := by
  simp only [commandOps, List.mem_cons, List.not_mem_nil, or_false, not_or]
  constructor
  · intro h
    dsimp only [decode] at h
    split_ifs at h with h0 h1 h2 h3 h4 h5 h6
    cases h
    exact ⟨rfl, h0, h1, h2, h3, h4, h5, h6⟩
  · rintro ⟨rfl, h0, h1, h2, h3, h4, h5, h6⟩
    simp only [decode, if_neg h0, if_neg h1, if_neg h2, if_neg h3, if_neg h4, if_neg h5, if_neg h6]

/-- A command without an operand is selected by the low byte alone. -/
theorem decode_eq_ok_iff_mod {w : Word} {i : Instr} (hi : ∀ b, i ≠ .crcByte b) :
    decode w = .ok i ↔ w.toNat % 256 = i.opcode.toNat := by
  rw [decode_eq_ok, ← toNat_opField, BitVec.toNat_inj]
  exact and_iff_left fun b hb => absurd hb (hi b)

theorem decode_eq_crcByte_iff_mod {w : Word} {b : Byte} :
    decode w = .ok (.crcByte b) ↔ w.toNat % 256 = 0x81 ∧ b.toNat = w.toNat / 256 % 256 := by
  rw [decode_eq_ok, ← toNat_opField, ← toNat_argField, BitVec.toNat_inj (y := argField w)]
  exact and_congr BitVec.toNat_inj.symm ⟨fun h => h b rfl, fun h c hc => Instr.crcByte.inj hc ▸ h⟩

/-- The reserved OP values, as numbers. -/
theorem opField_not_mem_commandOps {w : Word} :
    opField w ∉ commandOps ↔ w.toNat % 256 ∉ [0x00, 0x03, 0x04, 0x10, 0x80, 0x81, 0x82] := by
  rw [← toNat_opField]
  exact not_congr (List.mem_map_of_injective (l := commandOps) fun _ _ => BitVec.eq_of_toNat_eq).symm

namespace Machine

/-- Writing a reserved OP to CMD reports `ILLEGAL_OP` (43_control.md R171). -/
theorem runCommand_of_reserved {w : Word} (h : opField w ∉ commandOps) (s : State) :
    runCommand w s = .next (s.report .illegalOp) := by
  rw [runCommand, decode_eq_error.mpr ⟨rfl, h⟩]
  rfl

/-! ### The bytes of a 16-bit value (R87) -/

theorem extractLsb'_eq_loByte (v : Half) : v.extractLsb' 0 8 = loByte v := by
  apply BitVec.eq_of_toNat_eq
  simp [loByte]

theorem extractLsb'_eq_hiByte (v : Half) : v.extractLsb' 8 8 = hiByte v := by
  rw [hiByte, BitVec.extractLsb', Nat.shiftRight_eq_div_pow]

theorem fieldBytes_eq (v : Half) : fieldBytes v = [hiByte v, loByte v] := by
  rw [fieldBytes, extractLsb'_eq_hiByte, extractLsb'_eq_loByte]

theorem length_withCrc (f : List Byte) : (withCrc f).length = f.length + 2 := List.length_append

theorem append_crcBytes (f : List Byte) : f ++ crcBytes (crc16 Config.crcInit f) = withCrc f := by
  rw [crcBytes, extractLsb'_eq_hiByte, extractLsb'_eq_loByte]
  rfl

/-- The two bytes of a 16-bit value side by side are the value. -/
theorem hiByte_append_loByte (v : Half) : hiByte v ++ loByte v = v := by
  apply BitVec.eq_of_toNat_eq
  have hv := v.isLt
  rw [toNat_append_eq_add]
  simp only [hiByte, loByte, BitVec.toNat_ofNat]
  omega

/-! ### The frames that `emit` builds (R80, R82) -/

theorem bytes_eq_map_range (s : State) (a n : Nat) :
    s.bytes a n = (List.range n).map fun i => s.byte (a + i) := by
  induction n with
  | zero => rfl
  | succ n ih => rw [State.bytes_add, ih, List.range_succ, List.map_append]; rfl

/-- `emit` retains the frame of its operands, when it fits TX_LEN. -/
theorem builtFrame_emit {fc : Byte} {body : List Byte} (s : State) (h : body.length + 4 < 512) :
    BuiltFrame fc (s.slave :: fc :: body) (emit fc body s) :=
  ⟨by rw [frame_emit fc body s h, append_crcBytes], emit_txLen_toNat fc body s h, rfl, rfl, rfl, rfl⟩

theorem slave_cons_wmrBody (s : State) : s.slave :: 0x10 :: wmrBody s = writeRequestHead s := by
  rw [wmrBody, rdBody, fieldBytes_eq, fieldBytes_eq, bytes_eq_map_range]
  rfl

/-- DATA_LEN agrees with BYTE_COUNT when they have the same value (41_framer.md R135). -/
theorem dataLenMatches_iff {s : State} : dataLenMatches s = true ↔ s.dataLen.toNat = s.byteCount.toNat := by
  rw [dataLenMatches, beq_iff_eq, ← BitVec.toNat_inj, BitVec.toNat_setWidth_of_le (by decide)]

theorem exec_buildWmr_of_matches {s : State} (h : dataLenMatches s = true) :
    exec .buildWmr s = .next (emit 0x10 (wmrBody s) s) := by
  rw [exec_buildWmr, execBuildWmr, if_pos h]

/-! ### The writers of STATUS (R93) -/

/-- A frame is built from nothing that a status code changes. -/
theorem emit_report (fc : Byte) (body : List Byte) (s : State) (c : StatusCode) :
    emit fc body (s.report c) = emit fc body s := rfl

theorem wmrBody_report (s : State) (c : StatusCode) : wmrBody (s.report c) = wmrBody s := by
  simp only [wmrBody, State.report_byteCount]
  rw [State.bytes_congr _ fun x _ _ => State.byte_report s x c]
  rfl

theorem execBuildWmr_report (s : State) (c : StatusCode) : execBuildWmr (s.report c) = execBuildWmr s := by
  simp only [execBuildWmr, wmrBody_report, emit_report]
  rfl

/-- PARSE overwrites the code and both flags, and reads none of them. -/
theorem execParse_status (s : State) (c : StatusCode) (n e : Bool) :
    execParse ((s.report c).setFlags n e) = execParse s := by
  have hcrc : computedCrc ((s.report c).setFlags n e) = computedCrc s :=
    congrArg (crc16 Config.crcInit) (State.bytes_congr (candidateLen s - 2) fun _ _ _ => rfl)
  have hrec (t : State) : recordCrc ((s.report c).setFlags n e) t = recordCrc s t := by
    rw [recordCrc, hcrc]
    rfl
  have hcand : parseCandidate ((s.report c).setFlags n e) = parseCandidate s := by
    simp only [parseCandidate, hcrc, hrec]
    rfl
  rw [execParse, hcand]
  rfl

/-- What a command other than NOP leaves does not depend on the code before it. -/
theorem exec_report {i : Instr} (hi : i ≠ .nop) (s : State) (c : StatusCode) :
    exec i (s.report c) = exec i s := by
  cases i with
  | nop => exact absurd rfl hi
  | buildRhr => rfl
  | buildRir => rfl
  | buildWmr => exact execBuildWmr_report s c
  | crcReset => rfl
  | crcByte b => rfl
  | parse => exact execParse_status s c s.nulSkipped s.echoShort

theorem parseCandidate_code_ne_none (s : State) : (parseCandidate s).code ≠ .none := by
  rcases parseCandidate_cases s with ⟨-, heq⟩ | ⟨-, -, heq⟩ | ⟨-, -, heq⟩ | ⟨-, -, -, -, heq⟩ |
    ⟨-, -, -, -, heq⟩ | ⟨-, -, -, heq⟩ <;> rw [heq] <;> exact nofun

theorem exec_code_ne_none {i : Instr} (hi : i ≠ .nop) {s t : State} (ht : exec i s = .next t) :
    t.code ≠ .none := by
  cases i with
  | nop => exact absurd rfl hi
  | buildRhr => cases ht; exact nofun
  | buildRir => cases ht; exact nofun
  | buildWmr =>
    rcases execBuildWmr_cases s with ⟨-, heq⟩ | ⟨-, heq⟩ <;> cases heq.symm.trans ht <;> exact nofun
  | crcReset => cases ht; exact nofun
  | crcByte b => cases ht; exact nofun
  | parse =>
    rcases execParse_cases s with ⟨-, heq⟩ | ⟨-, -, heq⟩ | ⟨-, -, heq⟩ <;> cases heq.symm.trans ht
    · exact nofun
    · exact nofun
    · exact parseCandidate_code_ne_none s

/-- Only PARSE writes the two flags. -/
theorem exec_keeps_flags {i : Instr} (hi : i ≠ .parse) {s t : State} (ht : exec i s = .next t) :
    t.nulSkipped = s.nulSkipped ∧ t.echoShort = s.echoShort := by
  cases i with
  | parse => exact absurd rfl hi
  | buildWmr =>
    rcases execBuildWmr_cases s with ⟨-, heq⟩ | ⟨-, heq⟩ <;> cases heq.symm.trans ht
    · exact ⟨emit_nulSkipped _ _ s, emit_echoShort _ _ s⟩
    · exact ⟨rfl, rfl⟩
  | nop => cases ht; exact ⟨rfl, rfl⟩
  | buildRhr => cases ht; exact ⟨emit_nulSkipped _ _ s, emit_echoShort _ _ s⟩
  | buildRir => cases ht; exact ⟨emit_nulSkipped _ _ s, emit_echoShort _ _ s⟩
  | crcReset => cases ht; exact ⟨rfl, rfl⟩
  | crcByte b => cases ht; exact ⟨rfl, rfl⟩

/-! ### The read responses that PARSE accepts (R84, R86) -/

/-- PARSE stores to no buffer. -/
theorem byte_parseCandidate (s : State) (a : Nat) : (parseCandidate s).byte a = s.byte a := by
  rcases parseCandidate_cases s with ⟨-, heq⟩ | ⟨-, -, heq⟩ | ⟨-, -, heq⟩ | ⟨-, -, -, -, heq⟩ |
    ⟨-, -, -, -, heq⟩ | ⟨-, -, -, heq⟩ <;> simp [heq]

theorem exec_parse_of_ready {s : State} (h : ParseReady s) : exec .parse s = .next (parseCandidate s) := by
  obtain ⟨hv, hn⟩ := h
  have hrx : ¬Config.rxMax < rxCount s := by simpa [Config.rxMax, rxCount] using hn
  rw [exec_parse, execParse, if_neg (by simp [hv]), if_neg hrx]

/-- After a good CRC a read response whose length agrees with its byte count is accepted (42_parser.md R158). -/
theorem parseCandidate_of_accepted {s : State} (hcrc : receivedCrc s = computedCrc s)
    (hfc : s.frameFc = 0x03 ∨ s.frameFc = 0x04) (hlen : candidateLen s = (respByteCount s).toNat + 5) :
    parseCandidate s = ((recordCrc s (locateCandidate s)).setPayload
      (BitVec.ofNat 11 (candidateOff s + 3)) (respByteCount s)).report .ok := by
  rcases parseCandidate_cases s with ⟨h0, -⟩ | ⟨-, h4, -⟩ | ⟨-, hne, -⟩ | ⟨-, -, -, hne, -⟩ |
    ⟨-, -, -, -, heq⟩ | ⟨-, -, hne, -⟩
  · omega
  · omega
  · exact absurd hcrc hne
  · exact absurd hlen hne
  · exact heq
  · exact absurd hfc hne

/-- Bytes of a concatenation, part by part. -/
theorem bytes_eq_append {s : State} {a n : Nat} {p q : List Byte} (h : s.bytes a n = p ++ q) :
    s.bytes a p.length = p ∧ s.bytes (a + p.length) q.length = q := by
  have hn : n = p.length + q.length := by rw [← State.length_bytes s n a, h, List.length_append]
  rw [hn, State.bytes_add] at h
  exact List.append_inj h (State.length_bytes _ _ _)

/-- The NUL that the line inserts, and a response that does not start with one, decide the skip (42_parser.md R152). -/
theorem toNat_nulFollows {s : State} {nul q : List Byte} {a : Byte} {m : Nat} (hn : echoLen s < rxCount s)
    (hnul : nul = [0x00] ∨ (nul = [] ∧ a ≠ 0x00))
    (hb : s.bytes (rxBase + echoLen s) (m + 1) = nul ++ a :: q) : (nulFollows s).toNat = nul.length := by
  have hhead : s.rxBuf (echoLen s) :: _ = nul ++ a :: q := hb
  rcases hnul with rfl | ⟨rfl, ha⟩
  · have h0 : s.rxBuf (echoLen s) = 0 := (List.cons.inj hhead).1
    simp [nulFollows, hn, h0]
  · have h0 : s.rxBuf (echoLen s) = a := (List.cons.inj hhead).1
    have hne : a ≠ 0#8 := ha
    simp [nulFollows, h0, hne]

/-- A candidate that is a sequence followed by its CRC carries the CRC that PARSE computes (42_parser.md R155, R156). -/
theorem receivedCrc_eq_computedCrc {s : State} {f : List Byte} (hlen : candidateLen s = f.length + 2)
    (hb : s.bytes (rxBase + candidateOff s) (f.length + 2) = withCrc f) : receivedCrc s = computedCrc s := by
  obtain ⟨hf, hc⟩ := bytes_eq_append hb
  have hcomputed : computedCrc s = crc16 0xFFFF f := by
    rw [computedCrc, hlen, Nat.add_sub_cancel, hf]
    rfl
  obtain ⟨hlo, hhi, -⟩ : _ ∧ _ ∧ _ := by
    simpa only [State.bytes, List.length_cons, List.length_nil, List.cons.injEq] using hc
  have hat (k : Nat) :
      s.rxBuf (candidateOff s + f.length + k) = s.byte (rxBase + candidateOff s + f.length + k) := by
    rw [State.rxBuf]
    congr 1
    omega
  rw [hcomputed, receivedCrc, hlen, ← hiByte_append_loByte (crc16 0xFFFF f), ← hlo, ← hhi]
  exact congrArg₂ _ (hat 1) (hat 0)

/-- Where the candidate starts and how long it is, after the echo and `k` skipped bytes (42_parser.md R153). -/
theorem candidate_of_skip {s : State} {k m : Nat} (hskip : (nulFollows s).toNat = k)
    (hrx : rxCount s = echoLen s + k + m) : candidateOff s = echoLen s + k ∧ candidateLen s = m := by
  have hoff : candidateOff s = echoLen s + k := by
    rw [candidateOff, hskip]
    exact Nat.min_eq_right (by omega)
  have hsum := candidateOff_add_len s
  exact ⟨hoff, by omega⟩

/-- PARSE accepts a candidate that is a read response, and names its data bytes (R84). -/
theorem parseCandidate_readResponse {s : State} {a f : Byte} {data : List Byte}
    (hfc : s.frameFc = 0x03 ∨ s.frameFc = 0x04) (hdata : data.length ≤ 255)
    (hlen : candidateLen s = data.length + 5)
    (hcand : s.bytes (rxBase + candidateOff s) (data.length + 5) =
      withCrc ([a, f, BitVec.ofNat 8 data.length] ++ data)) :
    (parseCandidate s).code = .ok ∧ payload (parseCandidate s) = data := by
  have hcrc : receivedCrc s = computedCrc s :=
    receivedCrc_eq_computedCrc (f := [a, f, BitVec.ofNat 8 data.length] ++ data) hlen hcand
  obtain ⟨hhead, htail⟩ := bytes_eq_append (hcand.trans (List.append_assoc _ _ _))
  obtain ⟨hbytes, -⟩ := bytes_eq_append htail
  have hbc : respByteCount s = BitVec.ofNat 8 data.length := by
    simp only [State.bytes, List.length_cons, List.length_nil, List.cons.injEq, and_true] at hhead
    obtain ⟨-, -, hbc⟩ := hhead
    exact hbc
  have hn : (respByteCount s).toNat = data.length := by
    rw [hbc, BitVec.toNat_ofNat]
    omega
  have heq := parseCandidate_of_accepted hcrc hfc (by omega)
  have hoff : (parseCandidate s).payloadOff.toNat = candidateOff s + 3 := by
    have hsum := candidateOff_add_len s
    have hrx : rxCount s < 2 ^ 11 := s.rxLen.isLt
    rw [heq, State.report_payloadOff, State.setPayload_payloadOff, BitVec.toNat_ofNat]
    omega
  have hcount : (parseCandidate s).payloadLen.toNat = data.length := by
    rw [heq, State.report_payloadLen, State.setPayload_payloadLen, hn]
  refine ⟨by rw [heq, State.report_code], ?_⟩
  rw [payload, hoff, hcount, State.bytes_congr _ fun x _ _ => byte_parseCandidate s x]
  exact hbytes

/-! ### The expansion of rx.load (R95) -/

/-- The zero bytes that fill the last word of `n` bytes. -/
def wordPadding (n : Nat) : List Byte := List.replicate ((4 - n % 4) % 4) 0

theorem laneBytes_packWord (b0 b1 b2 b3 : Byte) : laneBytes (packWord b0 b1 b2 b3) = [b0, b1, b2, b3] := by
  have h0 := b0.isLt
  have h1 := b1.isLt
  have h2 := b2.isLt
  simp only [laneBytes, extractLsb'_eq_ofNat_div, toNat_packWord, List.cons.injEq, and_true]
  refine ⟨?_, ?_, ?_, ?_⟩ <;> apply BitVec.eq_of_toNat_eq <;> rw [BitVec.toNat_ofNat] <;> omega

/-- A word inside DATABUF or RXBUF (20_memory.md R60). -/
def StorableWord (off : Nat) : Prop :=
  off % 4 = 0 ∧ ((0x100 ≤ off ∧ off < 0x200) ∨ (0x400 ≤ off ∧ off < 0x800))

/-- A run goes on from the state in which the first store has placed its four bytes. -/
theorem runEvents_storeWord {base : Nat} (h : StorableWord base) (b0 b1 b2 b3 : Byte) (es : List HostEvent)
    (s : State) :
    runEvents (.write base 4 (packWord b0 b1 b2 b3) :: es) s =
      runEvents es (s.setMem (s.mem.writeBytes base [b0, b1, b2, b3])) := by
  obtain ⟨hal, hoff⟩ := h
  refine runEvents_cons ?_
  rw [onEvent_write (accessRefusal_eq_none.mpr ⟨by omega, rfl, hal⟩), busWrite_buffer s _ (by omega),
    State.storeWord, laneBytes_packWord]

/-- The word stores of a buffer load write the bytes and their padding. -/
theorem runEvents_storeBytes (base : Nat) (bs : List Byte) (s : State)
    (h : ∀ k, 4 * k < bs.length → StorableWord (base + 4 * k)) :
    runEvents (storeBytes base bs) s =
      .next (s.setMem (s.mem.writeBytes base (bs ++ wordPadding bs.length))) := by
  induction base, bs using storeBytes.induct generalizing s with
  | case1 => rfl
  | case2 base b0 => exact runEvents_storeWord (h 0 (by simp)) b0 0 0 0 [] s
  | case3 base b0 b1 => exact runEvents_storeWord (h 0 (by simp)) b0 b1 0 0 [] s
  | case4 base b0 b1 b2 => exact runEvents_storeWord (h 0 (by simp)) b0 b1 b2 0 [] s
  | case5 base b0 b1 b2 b3 rest ih =>
    have hpad : wordPadding (b0 :: b1 :: b2 :: b3 :: rest).length = wordPadding rest.length := by
      exact congrArg (List.replicate · 0) (by simp only [List.length_cons]; omega)
    have hfirst : StorableWord base := h 0 (by simp)
    rw [storeBytes, runEvents_storeWord hfirst, hpad, ih]
    · rfl
    · intro k hk
      have hnext := h (k + 1) (by simp only [List.length_cons]; omega)
      rwa [show base + 4 * (k + 1) = base + 4 + 4 * k by omega] at hnext

/-- A register store changes no buffer byte. -/
theorem byte_regStore (s : State) (w : Word) (r : Reg) (a : Nat) : (regStore s w r).byte a = s.byte a := by
  cases r <;> rfl

/-- What rx.load leaves, for a list that RXBUF holds. -/
theorem runEvents_rxLoad {bs : List Byte} (h : bs.length ≤ 1024) (s : State) :
    runEvents (rxLoad bs) s =
      .next (regStore (s.setMem (s.mem.writeBytes rxBase (bs ++ wordPadding bs.length)))
        (BitVec.ofNat 32 bs.length) .rxLen) := by
  have hwords : ∀ k, 4 * k < bs.length → StorableWord (rxBase + 4 * k) := fun k hk => by
    simp only [StorableWord, rxBase]
    omega
  rw [rxLoad, runEvents_append, runEvents_storeBytes rxBase bs s hwords]
  exact runEvents_cons (onEvent_write_reg _ _ (r := .rxLen) nofun)

/-! ### The statements -/

/-- Settles O2: the decoder's two answers by OP (`decode_eq_ok`, `decode_eq_error`), with the fields as numbers. -/
theorem decodeSelectsByOpAlone : Obligations.DecodeSelectsByOpAlone := by
  refine ⟨fun w => ⟨decode_eq_ok_iff_mod nofun, decode_eq_ok_iff_mod nofun, decode_eq_ok_iff_mod nofun,
    decode_eq_ok_iff_mod nofun, decode_eq_ok_iff_mod nofun, fun b => decode_eq_crcByte_iff_mod,
    decode_eq_ok_iff_mod nofun, fun op => ?_, fun s h => ?_⟩, by decide +kernel⟩
  · rw [decode_eq_error, opField_not_mem_commandOps, ← BitVec.toNat_inj, toNat_opField]
  · exact runCommand_of_reserved (opField_not_mem_commandOps.mpr h) s

/-- Settles O15: equal lengths let `emit` run, and its body is the write request's (R82). -/
theorem buildWriteFrame : Obligations.BuildWriteFrame := by
  intro s h
  have hlen := length_wmrBody s
  have hbc := s.byteCount.isLt
  refine ⟨_, exec_buildWmr_of_matches (dataLenMatches_iff.mpr h), ?_, ?_⟩
  · rw [← slave_cons_wmrBody]
    exact builtFrame_emit s (by omega)
  · rw [emit_txLen_toNat _ _ s (by omega)]
    omega

/-- Settles O31: the NUL, or its absence, fixes where the candidate starts (`toNat_nulFollows`, `candidate_of_skip`), and a
candidate that is a read response is accepted (`parseCandidate_readResponse`). -/
theorem parseAcceptsReadResponse : Obligations.ParseAcceptsReadResponse := by
  intro s nul a f data hready hfc hnul hdata hrx hbytes
  obtain ⟨-, hresp⟩ := bytes_eq_append hbytes
  have hskip : (nulFollows s).toNat = nul.length :=
    toNat_nulFollows (by simp only [echoLen, rxCount]; omega) hnul hbytes
  obtain ⟨hoff, hlen⟩ := candidate_of_skip (m := data.length + 5) hskip hrx
  refine ⟨_, exec_parse_of_ready hready, parseCandidate_readResponse (a := a) (f := f) hfc hdata hlen ?_⟩
  rw [length_withCrc] at hresp
  rw [hoff, ← Nat.add_assoc]
  exact hresp

/-- Settles O35: one lemma for each of the four clauses, by cases on the command. -/
theorem statusWriters : Obligations.StatusWriters :=
  ⟨fun _ _ _ hi ht => exec_code_ne_none hi ht, fun _ s c hi => exec_report hi s c,
    fun _ _ _ hi ht => exec_keeps_flags hi ht, fun s => by
      obtain ⟨t, ht⟩ := exec_completes .parse s
      exact ⟨t, ht, fun n e => (execParse_status s s.code n e).trans ht⟩⟩

/-- Settles O50: the stores write the bytes and their padding, at RXBUF or above. -/
theorem rxLoadPlacesBytes : Obligations.RxLoadPlacesBytes := by
  intro s bs h
  have hlen : (BitVec.ofNat 32 bs.length).setWidth 11 = BitVec.ofNat 11 bs.length :=
    BitVec.setWidth_ofNat_of_le (by decide) _
  refine ⟨_, runEvents_rxLoad h s, ?_, ?_, fun x hx => ?_⟩
  · have hread := State.bytes_setMem_writeBytes s rxBase (bs ++ wordPadding bs.length)
    exact (State.bytes_congr bs.length fun x _ _ => byte_regStore _ _ _ x).trans (bytes_eq_append hread).1
  · rw [regStore, hlen]
    rfl
  · exact (State.byte_setMem_writeBytes s rxBase _ x).trans (if_neg (by omega))

end Machine

end Sys2Proof

/-! SUPPORT. The family of 40_crc.md: the iteration and the step as the spec writes them, a CRC fed byte by byte, the residue of a
frame, and the two CRC commands. -/

namespace Sys2Proof.Machine

/-! ### The iteration and the step (40_crc.md R110) -/

theorem getLsbD_zero_iff_mod (c : Half) : c.getLsbD 0 = true ↔ c.toNat % 2 = 1 := by
  rw [BitVec.getLsbD, Nat.testBit_zero, decide_eq_true_iff]

/-- One iteration, with the bit before the shift as the value's parity and the polynomial written out. -/
theorem crcShift_eq_ite_mod (c : Half) :
    crcShift c = if c.toNat % 2 = 1 then (c >>> 1) ^^^ (0xA001 : Half) else c >>> 1 :=
  if_congr (getLsbD_zero_iff_mod c) rfl rfl

theorem crcShifts_eq_iterate (n : Nat) (c : Half) : crcShifts n c = crcShift^[n] c := by
  induction n generalizing c with
  | zero => rfl
  | succ n ih => exact ih _

/-! ### The arithmetic laws (R115) -/

/-- The step is linear over GF(2): xoring the byte in and every iteration are. -/
theorem crcStep_xor (c d : Half) (a b : Byte) : crcStep (c ^^^ d) (a ^^^ b) = crcStep c a ^^^ crcStep d b := by
  have hmix : (c ^^^ d) ^^^ (a ^^^ b).setWidth 16 = (c ^^^ a.setWidth 16) ^^^ (d ^^^ b.setWidth 16) := by
    rw [BitVec.setWidth_xor]
    ac_rfl
  rw [crcStep, hmix, crcShifts_xor]
  rfl

/-- CRC_BYTE for each byte in turn completes and leaves the CRC of all of them in `crc`. -/
theorem foldl_crcByte (bs : List Byte) (s : State) :
    ∃ t, bs.foldl (fun o b => andThen o (exec (.crcByte b))) (.next s) = .next t ∧ t.crc = crc16 s.crc bs := by
  induction bs generalizing s with
  | nil => exact ⟨s, rfl, rfl⟩
  | cons b bs ih => exact ih ((s.setCrc (crcStep s.crc b)).report .ok)

/-! ### The residue of a frame (R116) -/

/-- The CRC of everything that `emit` retains is 0, when it fits TX_LEN. -/
theorem crc16_frame_emit (fc : Byte) (body : List Byte) (s : State) (h : body.length + 4 < 512) :
    crc16 Config.crcInit (emit fc body s).frame = 0 := by
  rw [frame_emit fc body s h, crc16_append_crcBytes]

/-- A BUILD that leaves a frame retained has emitted it, with a body that fits TXBUF (41_framer.md R130, R136). -/
theorem exec_build_eq_emit {i : Instr} (hi : isBuild i = true) {s t : State} (ht : exec i s = .next t)
    (hv : t.frameValid = true) : ∃ fc body, body.length + 4 ≤ 264 ∧ t = emit fc body s := by
  have hread : (rdBody s).length + 4 ≤ 264 := by
    rw [length_rdBody]
    decide
  cases i with
  | buildRhr => cases ht; exact ⟨_, _, hread, rfl⟩
  | buildRir => cases ht; exact ⟨_, _, hread, rfl⟩
  | buildWmr =>
    rcases execBuildWmr_cases s with ⟨-, heq⟩ | ⟨-, heq⟩ <;> cases heq.symm.trans ht
    · have hlen := length_wmrBody s
      have hbc := s.byteCount.isLt
      exact ⟨_, _, by omega, rfl⟩
    · cases hv
  | nop => cases hi
  | crcReset => cases hi
  | crcByte b => cases hi
  | parse => cases hi

/-! ### The commands by their word (30_encoding.md R90) -/

/-- A write to CMD runs the command that its word selects. -/
theorem runCommand_of_decode {w : Word} {i : Instr} (h : decode w = .ok i) (s : State) :
    runCommand w s = exec i s := by
  rw [runCommand, h]

/-! ### The statements -/

/-- Settles O9: the fold over an append (`crc16_append`), over CRC_BYTE (`foldl_crcByte`), and linearity (`crcStep_xor`). -/
theorem crcArithmeticLaws : Obligations.CrcArithmeticLaws :=
  ⟨fun _ => rfl, crc16_append, foldl_crcByte, crcStep_xor⟩

/-- Settles O10: a CRC fed its own two bytes is 0 (`crc16_append_crcBytes`), and a retained frame is what `emit` wrote. -/
theorem crcResidueIsZero : Obligations.CrcResidueIsZero := by
  refine ⟨fun f => ?_, fun i s t hi ht hv => ?_⟩
  · rw [← append_crcBytes]
    exact crc16_append_crcBytes _ f
  · obtain ⟨fc, body, hlen, rfl⟩ := exec_build_eq_emit hi ht hv
    exact crc16_frame_emit fc body s (by omega)

/-- Settles O8: the model's iteration is the one of R110 (`crcShift_eq_ite_mod`), and its eightfold use an iterate. -/
theorem crcStepIsEightShifts : Obligations.CrcStepIsEightShifts := by
  intro c b
  rw [crcStep, crcShifts_eq_iterate, funext crcShift_eq_ite_mod]

/-- Settles O12: the effect of CRC_RESET, which the low byte 0x80 selects. -/
theorem crcResetResult : Obligations.CrcResetResult := fun s =>
  ⟨exec_crcReset s, fun _ hw =>
    (runCommand_of_decode ((decode_eq_ok_iff_mod (i := .crcReset) nofun).mpr hw) s).trans (exec_crcReset s)⟩

/-- Settles O13: the effect of CRC_BYTE, which the low byte 0x81 selects with the next byte as its operand. -/
theorem crcByteResult : Obligations.CrcByteResult := by
  refine ⟨fun s b => exec_crcByte b s, fun s w hw => ?_, by decide, by decide⟩
  have hdec : decode w = .ok (.crcByte (BitVec.ofNat 8 (w.toNat / 256))) :=
    decode_eq_crcByte_iff_mod.mpr ⟨hw, BitVec.toNat_ofNat _ _⟩
  exact (runCommand_of_decode hdec s).trans (exec_crcByte _ s)

end Sys2Proof.Machine

/-! SUPPORT. The family of 41_framer.md: how a BUILD runs in states that agree on its operands, what it retains and what it leaves
unchanged, its failure, and the stores that leave the retained frame alone. -/

namespace Sys2Proof.Machine

/-! ### A failed BUILD (R136) -/

theorem exec_buildWmr_of_not_matches {s : State} (h : dataLenMatches s = false) :
    exec .buildWmr s = .next (buildFail s) := by
  rw [exec_buildWmr, execBuildWmr, if_neg (by simp [h])]

/-- BUILD_WMR reports PARAM_ERROR only where it fails. -/
theorem eq_buildFail_of_paramError {s t : State} (ht : exec .buildWmr s = .next t) (hc : t.code = .paramError) :
    t = buildFail s := by
  rw [exec_buildWmr] at ht
  rcases execBuildWmr_cases s with ⟨-, heq⟩ | ⟨-, heq⟩ <;> cases heq.symm.trans ht
  · cases hc
  · rfl

/-- With no frame retained PARSE aborts (42_parser.md R150). -/
theorem exec_parse_of_no_frame {s : State} (h : s.frameValid = false) :
    exec .parse s = .next (parseAbort .seqError s) := by
  rw [exec_parse, execParse, if_pos h]

/-! ### What a BUILD reads (41_framer.md R132, R135, R137) -/

theorem SameBuildInputs.refl (s : State) : SameBuildInputs s s := ⟨rfl, rfl, rfl, rfl, rfl, fun _ _ => rfl⟩

section
variable {s s' : State} (h : SameBuildInputs s s')
include h

theorem rdBody_congr : rdBody s' = rdBody s := by
  obtain ⟨-, hreg, hcount, -, -, -⟩ := h
  rw [rdBody, rdBody, hreg, hcount]

theorem wmrBody_congr : wmrBody s' = wmrBody s := by
  have hrd := rdBody_congr h
  obtain ⟨-, -, -, hbc, -, hdata⟩ := h
  have hbytes : s'.bytes dataBase s.byteCount.toNat = s.bytes dataBase s.byteCount.toNat := by
    rw [bytes_eq_map_range, bytes_eq_map_range]
    exact List.map_congr_left fun k hk => hdata k (List.mem_range.mp hk)
  rw [wmrBody, wmrBody, hrd, hbc, hbytes]

theorem dataLenMatches_congr : dataLenMatches s' = dataLenMatches s := by
  obtain ⟨-, -, -, hbc, hdl, -⟩ := h
  rw [dataLenMatches, dataLenMatches, hbc, hdl]

/-- The two ways a BUILD runs: from states that agree on its operands it emits the same function code and a body that fits TXBUF, or
it fails (R133 to R136). -/
theorem exec_build_cases {i : Instr} (hi : isBuild i = true) :
    (∃ fc body, body.length + 4 ≤ 264 ∧
      exec i s = .next (emit fc body s) ∧ exec i s' = .next (emit fc body s')) ∨
    (exec i s = .next (buildFail s) ∧ exec i s' = .next (buildFail s')) := by
  have hread : (rdBody s).length + 4 ≤ 264 := by
    rw [length_rdBody]
    decide
  have hrd := rdBody_congr h
  cases i with
  | buildRhr => exact .inl ⟨0x03, rdBody s, hread, exec_buildRhr s, hrd ▸ exec_buildRhr s'⟩
  | buildRir => exact .inl ⟨0x04, rdBody s, hread, exec_buildRir s, hrd ▸ exec_buildRir s'⟩
  | buildWmr =>
    have hm := dataLenMatches_congr h
    cases hs : dataLenMatches s with
    | true =>
      have hlen := length_wmrBody s
      have hbc := s.byteCount.isLt
      exact .inl ⟨0x10, wmrBody s, by omega, exec_buildWmr_of_matches hs,
        wmrBody_congr h ▸ exec_buildWmr_of_matches (hm.trans hs)⟩
    | false => exact .inr ⟨exec_buildWmr_of_not_matches hs, exec_buildWmr_of_not_matches (hm.trans hs)⟩
  | nop => cases hi
  | crcReset => cases hi
  | crcByte b => cases hi
  | parse => cases hi

end

/-! ### What a BUILD retains (R130, R133, R134) -/

/-- A frame, its function code and success fix the retained frame, its registers and the code. -/
theorem BuiltFrame.unique {fc : Byte} {f : List Byte} {t t' : State} (h : BuiltFrame fc f t) (h' : BuiltFrame fc f t') :
    t'.frame = t.frame ∧ SameFrame t t' ∧ t'.code = t.code := by
  obtain ⟨hframe, hlen, hfc, hvalid, -, hcode⟩ := h
  obtain ⟨hframe', hlen', hfc', hvalid', -, hcode'⟩ := h'
  exact ⟨hframe'.trans hframe.symm, ⟨hvalid'.trans hvalid.symm, BitVec.eq_of_toNat_eq (hlen'.trans hlen.symm),
    hfc'.trans hfc.symm⟩, hcode'.trans hcode.symm⟩

/-- What `emit` retains for the body of a read is the read request of 30_encoding.md R81. -/
theorem builtFrame_emit_rdBody (fc : Byte) (s : State) :
    BuiltFrame fc (readRequestHead fc s) (emit fc (rdBody s) s) := by
  have hhead : s.slave :: fc :: rdBody s = readRequestHead fc s := by
    rw [rdBody, fieldBytes_eq, fieldBytes_eq]
    rfl
  rw [← hhead]
  exact builtFrame_emit s (by rw [length_rdBody]; decide)

/-! ### What a BUILD leaves unchanged (R130, R131, R136) -/

/-- `emit` stores to the bytes of the new frame alone. -/
theorem sameBytesOutside_emit (fc : Byte) (body : List Byte) (s : State) (h : body.length + 4 < 512) :
    SameBytesOutside txBase (emit fc body s).txLen.toNat s (emit fc body s) := fun a ha => by
  rw [emit_txLen_toNat fc body s h] at ha
  exact byte_emit_outside fc body s ha

/-! ### Stores beside the retained frame (R138) -/

theorem sameFrame_regStore (s : State) (w : Word) (r : Reg) : SameFrame s (regStore s w r) := by
  cases r <;> exact ⟨rfl, rfl, rfl⟩

/-- A defined write to an offset other than CMD changes no frame register and no byte from TXBUF to the start of RXBUF. -/
theorem busWrite_keeps_frame {s t : State} {off : Nat} {w : Word} (hoff : off ≠ 0) (hal : off % 4 = 0)
    (ht : busWrite s off w = .next t) :
    SameFrame s t ∧ ∀ a, txBase ≤ a → a < rxBase → t.byte a = s.byte a := by
  rcases busWrite_cases s off w with ⟨h0, -⟩ | ⟨r, -, -, heq⟩ | ⟨-, hhi, heq⟩ | ⟨hlo, heq⟩ | heq
  · exact absurd h0 hoff
  all_goals cases heq.symm.trans ht
  · exact ⟨sameFrame_regStore s w r, fun a _ _ => byte_regStore s w r a⟩
  · refine ⟨⟨rfl, rfl, rfl⟩, fun a hlo _ => sameBytesOutside_storeWord s off w a (.inr ?_)⟩
    simp only [txBase] at hlo
    omega
  · exact ⟨⟨rfl, rfl, rfl⟩, fun a _ hhi => sameBytesOutside_storeWord s off w a (.inl (hhi.trans_le hlo))⟩
  · exact ⟨⟨rfl, rfl, rfl⟩, fun _ _ _ => rfl⟩

/-- Whatever TX_LEN is, the retained frame ends below RXBUF. -/
theorem frame_congr {s t : State} (hlen : t.txLen = s.txLen)
    (hbytes : ∀ a, txBase ≤ a → a < rxBase → t.byte a = s.byte a) : t.frame = s.frame := by
  have hlt := s.txLen.isLt
  rw [State.frame, State.frame, hlen]
  exact State.bytes_congr _ fun a hlo hhi => hbytes a hlo (by simp only [txBase, rxBase] at hhi ⊢; omega)

/-! ### The statements -/

/-- Settles O14: the frame is the read request's (`builtFrame_emit_rdBody`), and the low byte of the word selects the command. -/
theorem buildReadFrames : Obligations.BuildReadFrames := fun s =>
  ⟨⟨_, exec_buildRhr s, builtFrame_emit_rdBody 0x03 s, fun _ hw =>
      runCommand_of_decode ((decode_eq_ok_iff_mod (i := .buildRhr) nofun).mpr hw) s⟩,
    ⟨_, exec_buildRir s, builtFrame_emit_rdBody 0x04 s, fun _ hw =>
      runCommand_of_decode ((decode_eq_ok_iff_mod (i := .buildRir) nofun).mpr hw) s⟩⟩

/-- Settles O17: a BUILD is `emit`, which stores its frame alone, or `buildFail`, which stores no byte. -/
theorem buildFrameCondition : Obligations.BuildFrameCondition := by
  intro i s hi
  rcases exec_build_cases (.refl s) hi with ⟨fc, body, hlen, heq, -⟩ | ⟨heq, -⟩
  · exact ⟨_, heq, by simp [SameOperands], by simp [SameParseResult], by simp [SameHostSide],
      sameBytesOutside_emit fc body s (by omega), nofun⟩
  · exact ⟨_, heq, by simp [SameOperands], by simp [SameParseResult], by simp [SameHostSide],
      fun a _ => byte_buildFail s a, fun _ => buildFail_crc s⟩

/-- Settles O18: both states emit the same function code and body (`exec_build_cases`) with the same address, so they retain the
same frame (`BuiltFrame.unique`); or both fail. -/
theorem buildIsDeterministic : Obligations.BuildIsDeterministic := by
  intro i s s' hi h
  rcases exec_build_cases h hi with ⟨fc, body, hlen, heq, heq'⟩ | ⟨heq, heq'⟩
  · obtain ⟨hslave, -⟩ := h
    have hbuilt' := builtFrame_emit (fc := fc) (body := body) s' (by omega)
    rw [hslave] at hbuilt'
    exact ⟨_, _, heq, heq', (builtFrame_emit s (by omega)).unique hbuilt'⟩
  · exact ⟨_, _, heq, heq', rfl, ⟨rfl, rfl, rfl⟩, rfl⟩

/-- Settles O19: a defined write completes (`busWrite_completes`) and stores outside TXBUF (`busWrite_keeps_frame`). -/
theorem storesKeepRetainedFrame : Obligations.StoresKeepRetainedFrame := by
  intro s off w hoff hal hw
  obtain ⟨t, ht⟩ := busWrite_completes s off w
  obtain ⟨hsame, hbytes⟩ := busWrite_keeps_frame hoff hal ht
  have ⟨_, hlen, _⟩ := hsame
  refine ⟨t, (onEvent_write (accessRefusal_eq_none.mpr ⟨hw, rfl, hal⟩)).trans ht, hsame, frame_congr hlen hbytes,
    fun k hk => hbytes _ (Nat.le_add_right _ _) ?_⟩
  simp only [txBase, rxBase]
  omega

/-- Settles O16: unequal lengths make BUILD_WMR fail, a PARSE then finds no frame, and a read BUILD ends in `emit`. -/
theorem failedBuildDropsFrame : Obligations.FailedBuildDropsFrame := by
  refine ⟨fun s hne => ?_, fun s t ht hc => ?_, fun s t ht => ?_⟩
  · exact exec_buildWmr_of_not_matches (Bool.eq_false_iff.mpr (mt dataLenMatches_iff.mp hne))
  · rw [eq_buildFail_of_paramError ht hc]
    exact ⟨_, exec_parse_of_no_frame (buildFail_frameValid s), parseAbort_code _ _⟩
  · rcases ht with ht | ht <;> cases ht <;> rfl

end Sys2Proof.Machine

/-! SUPPORT. The family of 42_parser.md: how PARSE runs, where it places the candidate, what it records of the CRC and of the
payload, what it leaves unchanged, and that it depends on its operands alone. -/

namespace Sys2Proof.Machine

/-! ### One changed byte changes the CRC (40_crc.md R110, R111) -/

/-- An iteration loses nothing: the polynomial has bit 15, which a right shift leaves clear. -/
theorem crcShift_eq_zero {c : Half} (h : crcShift c = 0) : c = 0 := by
  have hlt := c.isLt
  have hshift : (c >>> 1).toNat = c.toNat / 2 := by rw [BitVec.toNat_ushiftRight, Nat.shiftRight_eq_div_pow, pow_one]
  rw [crcShift_eq_ite_mod] at h
  split at h
  · have hpoly : c >>> 1 = 0xA001#16 := BitVec.xor_eq_zero_iff.mp h
    rw [hpoly, BitVec.toNat_ofNat] at hshift
    omega
  · have hzero : (0 : Half).toNat = 0 := rfl
    rw [h, hzero] at hshift
    exact BitVec.eq_of_toNat_eq (by rw [hzero]; omega)

theorem crcShift_injective : Function.Injective crcShift := fun c d h =>
  BitVec.xor_eq_zero_iff.mp (crcShift_eq_zero (by rw [crcShift_xor, h, BitVec.xor_self]; rfl))

theorem crcShifts_injective (n : Nat) : Function.Injective (crcShifts n) := fun c d h =>
  crcShift_injective.iterate n (by rw [← crcShifts_eq_iterate, ← crcShifts_eq_iterate, h])

theorem crcStep_left_injective (b : Byte) : Function.Injective (crcStep · b) := fun _ _ h =>
  (BitVec.xor_left_inj _).mp (crcShifts_injective 8 h)

theorem crcStep_right_injective (c : Half) : Function.Injective (crcStep c) := fun a b h => by
  have hwide : a.setWidth 16 = b.setWidth 16 := (BitVec.xor_right_inj _).mp (crcShifts_injective 8 h)
  have hnat := congrArg BitVec.toNat hwide
  rw [BitVec.toNat_setWidth_of_le (by decide), BitVec.toNat_setWidth_of_le (by decide)] at hnat
  exact BitVec.eq_of_toNat_eq hnat

theorem crc16_left_injective (q : List Byte) : Function.Injective (crc16 · q) := by
  induction q with
  | nil => exact fun _ _ h => h
  | cons b q ih => exact fun _ _ h => crcStep_left_injective b (ih h)

theorem crc16_ne_of_byte_ne {a b : Byte} (h : a ≠ b) (c : Half) (p q : List Byte) :
    crc16 c (p ++ a :: q) ≠ crc16 c (p ++ b :: q) := by
  rw [crc16_append, crc16_append]
  exact fun heq => h (crcStep_right_injective _ (crc16_left_injective q heq))

/-! ### Parts of a run of buffer bytes -/

theorem take_bytes (s : State) (a : Nat) {k n : Nat} (h : k ≤ n) : (s.bytes a n).take k = s.bytes a k := by
  obtain ⟨m, rfl⟩ := Nat.exists_eq_add_of_le h
  rw [State.bytes_add, List.take_left' (State.length_bytes s k a)]

theorem bytes_eq_append_cons (s : State) (a : Nat) {k n : Nat} (h : k < n) :
    s.bytes a n = s.bytes a k ++ s.byte (a + k) :: s.bytes (a + k + 1) (n - k - 1) := by
  obtain ⟨m, rfl⟩ := Nat.exists_eq_add_of_lt h
  rw [Nat.add_assoc, State.bytes_add, Nat.add_sub_cancel_left, Nat.add_sub_cancel]
  rfl

/-! ### The three ways PARSE runs (42_parser.md R150, R159) -/

theorem exec_parse_of_overlong {s : State} (hv : s.frameValid = true) (hn : 1024 < s.rxLen.toNat) :
    exec .parse s = .next (parseAbort .paramError s) := by
  have hrx : Config.rxMax < rxCount s := hn
  rw [exec_parse, execParse, if_neg (by simp [hv]), if_pos hrx]

theorem eq_parseCandidate_of_ready {s t : State} (h : ParseReady s) (ht : exec .parse s = .next t) :
    t = parseCandidate s := by
  cases (exec_parse_of_ready h).symm.trans ht
  rfl

theorem eq_parseAbort_of_not_ready {s t : State} (h : ¬ParseReady s) (ht : exec .parse s = .next t) :
    ∃ c, c ≠ .ok ∧ t = parseAbort c s := by
  rw [exec_parse] at ht
  rcases execParse_cases s with ⟨-, heq⟩ | ⟨-, -, heq⟩ | ⟨hv, hn, -⟩
  · cases heq.symm.trans ht
    exact ⟨.seqError, nofun, rfl⟩
  · cases heq.symm.trans ht
    exact ⟨.paramError, nofun, rfl⟩
  · exact absurd ⟨hv, hn⟩ h

theorem ready_of_code_eq_ok {s t : State} (ht : exec .parse s = .next t) (hok : t.code = .ok) : ParseReady s := by
  by_contra hr
  obtain ⟨c, hc, rfl⟩ := eq_parseAbort_of_not_ready hr ht
  exact hc hok

/-! ### The outcomes of PARSE on a candidate (R154 to R158) -/

/-- Once the candidate is located, PARSE writes `crc`, RX_CRC, the payload's place and the code alone. -/
theorem parseCandidate_eq_updates (s : State) :
    ∃ crc received computed off len code, parseCandidate s =
      ((((locateCandidate s).setCrc crc).setRxCrc received computed).setPayload off len).report code := by
  rcases parseCandidate_cases s with ⟨-, heq⟩ | ⟨-, -, heq⟩ | ⟨-, -, heq⟩ | ⟨-, -, -, -, heq⟩ |
    ⟨-, -, -, -, heq⟩ | ⟨-, -, -, heq⟩
  · exact ⟨s.crc, 0, 0, 0, 0, _, heq⟩
  · exact ⟨s.crc, 0, 0, 0, 0, _, heq⟩
  · exact ⟨computedCrc s, receivedCrc s, computedCrc s, 0, 0, _, heq⟩
  · exact ⟨computedCrc s, receivedCrc s, computedCrc s, 0, 0, _, heq⟩
  · exact ⟨_, _, _, _, _, _, heq⟩
  · exact ⟨computedCrc s, receivedCrc s, computedCrc s, 0, 0, _, heq⟩

section
variable (s : State)

@[simp] theorem parseCandidate_nulSkipped : (parseCandidate s).nulSkipped = nulFollows s := by
  obtain ⟨_, _, _, _, _, _, heq⟩ := parseCandidate_eq_updates s
  rw [heq]
  rfl

@[simp] theorem parseCandidate_echoShort : (parseCandidate s).echoShort = echoIsShort s := by
  obtain ⟨_, _, _, _, _, _, heq⟩ := parseCandidate_eq_updates s
  rw [heq]
  rfl

@[simp] theorem toNat_parseCandidate_respOff : (parseCandidate s).respOff.toNat = candidateOff s := by
  obtain ⟨_, _, _, _, _, _, heq⟩ := parseCandidate_eq_updates s
  rw [heq]
  exact toNat_locateCandidate_respOff s

@[simp] theorem toNat_parseCandidate_respLen : (parseCandidate s).respLen.toNat = candidateLen s := by
  obtain ⟨_, _, _, _, _, _, heq⟩ := parseCandidate_eq_updates s
  rw [heq]
  exact toNat_locateCandidate_respLen s

/-- The candidate that PARSE names, in the bytes it read. -/
theorem candidate_parseCandidate :
    candidate (parseCandidate s) = s.bytes (rxBase + candidateOff s) (candidateLen s) := by
  rw [candidate, toNat_parseCandidate_respOff, toNat_parseCandidate_respLen]
  exact State.bytes_congr _ fun a _ _ => byte_parseCandidate s a

end

section
variable {s : State}

theorem parseCandidate_of_unchecked (h : candidateLen s < 4) : parseCandidate s =
    (locateCandidate s).report (if candidateLen s = 0 then .noResponse else .shortFrame) := by
  have hmin : candidateLen s < Config.minResp := h
  rw [parseCandidate, if_pos hmin]
  split <;> rfl

theorem parseCandidate_of_checked (h : 4 ≤ candidateLen s) : parseCandidate s =
    if receivedCrc s ≠ computedCrc s then (recordCrc s (locateCandidate s)).report .crcError
    else acceptPayload s (recordCrc s (locateCandidate s)) := by
  have hmin : ¬candidateLen s < Config.minResp := Nat.not_lt.mpr h
  rw [parseCandidate, if_neg (by omega), if_neg hmin]

theorem parseCandidate_of_goodCrc (h : 4 ≤ candidateLen s) (hcrc : receivedCrc s = computedCrc s) :
    parseCandidate s = acceptPayload s (recordCrc s (locateCandidate s)) := by
  rw [parseCandidate_of_checked h, if_neg (not_not_intro hcrc)]

/-- The CRC check is recorded whether or not the CRC is good. -/
theorem parseCandidate_records_crc (h : 4 ≤ candidateLen s) :
    (parseCandidate s).crc = computedCrc s ∧ (parseCandidate s).rxReceived = receivedCrc s ∧
      (parseCandidate s).rxComputed = computedCrc s := by
  rw [parseCandidate_of_checked h]
  unfold acceptPayload
  split_ifs <;> exact ⟨rfl, rfl, rfl⟩

/-- A good CRC, as the registers show it, is one that the candidate carries. -/
theorem goodCrc_of_exec_parse {t : State} (hr : ParseReady s) (ht : exec .parse s = .next t) (h4 : 4 ≤ t.respLen.toNat)
    (hgood : t.rxReceived = t.rxComputed) :
    t = parseCandidate s ∧ 4 ≤ candidateLen s ∧ receivedCrc s = computedCrc s := by
  obtain rfl := eq_parseCandidate_of_ready hr ht
  rw [toNat_parseCandidate_respLen] at h4
  obtain ⟨-, hreceived, hcomputed⟩ := parseCandidate_records_crc h4
  exact ⟨rfl, h4, by rw [← hreceived, hgood, hcomputed]⟩

theorem parseCandidate_code_eq_crcError_iff (h : 4 ≤ candidateLen s) :
    (parseCandidate s).code = .crcError ↔ receivedCrc s ≠ computedCrc s := by
  rw [parseCandidate_of_checked h]
  split
  · next hne => exact iff_of_true rfl hne
  · next hgood =>
    refine iff_of_false ?_ hgood
    unfold acceptPayload
    split_ifs <;> exact nofun

/-- What a success takes (R160). -/
theorem accepted_of_code_eq_ok (h : (parseCandidate s).code = .ok) :
    4 ≤ candidateLen s ∧ receivedCrc s = computedCrc s ∧
      (s.frameFc = 0x03 ∨ s.frameFc = 0x04 → candidateLen s = (respByteCount s).toNat + 5) := by
  rcases parseCandidate_cases s with ⟨-, heq⟩ | ⟨-, -, heq⟩ | ⟨-, -, heq⟩ | ⟨-, -, -, -, heq⟩ |
    ⟨h4, hcrc, -, hlen, -⟩ | ⟨h4, hcrc, hfc, -⟩
  · simp [heq] at h
  · simp [heq] at h
  · simp [heq] at h
  · simp [heq] at h
  · exact ⟨h4, hcrc, fun _ => hlen⟩
  · exact ⟨h4, hcrc, fun hread => absurd hread hfc⟩

theorem noPayload_of_code_ne_ok (h : (parseCandidate s).code ≠ .ok) : NoPayload (parseCandidate s) := by
  rcases parseCandidate_cases s with ⟨-, heq⟩ | ⟨-, -, heq⟩ | ⟨-, -, heq⟩ | ⟨-, -, -, -, heq⟩ |
    ⟨-, -, -, -, heq⟩ | ⟨-, -, -, heq⟩ <;> rw [heq] at h ⊢
  · exact ⟨rfl, rfl⟩
  · exact ⟨rfl, rfl⟩
  · exact ⟨rfl, rfl⟩
  · exact ⟨rfl, rfl⟩
  · exact absurd rfl h
  · exact absurd rfl h

/-- The payload of an accepted read response starts after address, function code and byte count (R158). -/
theorem parseCandidate_readPayload (hcrc : receivedCrc s = computedCrc s)
    (hfc : s.frameFc = 0x03 ∨ s.frameFc = 0x04) (hlen : candidateLen s = (respByteCount s).toNat + 5) :
    (parseCandidate s).code = .ok ∧ (parseCandidate s).payloadOff.toNat = candidateOff s + 3 ∧
      (parseCandidate s).payloadLen = respByteCount s := by
  have hsum := candidateOff_add_len s
  have hrx : rxCount s < 2 ^ 11 := s.rxLen.isLt
  rw [parseCandidate_of_accepted hcrc hfc hlen]
  refine ⟨rfl, ?_, rfl⟩
  rw [State.report_payloadOff, State.setPayload_payloadOff, BitVec.toNat_ofNat]
  omega

end

/-! ### The received CRC (R155) -/

theorem toNat_receivedCrc (s : State) :
    (receivedCrc s).toNat = (s.rxBuf (candidateOff s + candidateLen s - 1)).toNat * 256 +
      (s.rxBuf (candidateOff s + candidateLen s - 2)).toNat :=
  toNat_append_eq_add _ _

theorem crcBytes_append (hi lo : Byte) : crcBytes (hi ++ lo) = [lo, hi] :=
  congrArg₂ (fun x y => [x, y]) BitVec.extractLsb'_append_eq_right BitVec.extractLsb'_append_eq_left

theorem crcBytes_receivedCrc (s : State) :
    crcBytes (receivedCrc s) =
      [s.rxBuf (candidateOff s + candidateLen s - 2), s.rxBuf (candidateOff s + candidateLen s - 1)] :=
  crcBytes_append _ _

/-- A candidate that carries its own CRC has CRC 0 (40_crc.md R116). -/
theorem crc16_candidate_eq_zero {s : State} (h : 4 ≤ candidateLen s) (hcrc : receivedCrc s = computedCrc s) :
    crc16 Config.crcInit (s.bytes (rxBase + candidateOff s) (candidateLen s)) = 0 := by
  have hlast : s.bytes (rxBase + candidateOff s + (candidateLen s - 2)) 2 = crcBytes (computedCrc s) := by
    rw [← hcrc, crcBytes_receivedCrc]
    simp only [State.bytes, State.rxBuf]
    rw [show rxBase + candidateOff s + (candidateLen s - 2) = rxBase + (candidateOff s + candidateLen s - 2) by omega,
      show rxBase + (candidateOff s + candidateLen s - 2) + 1 = rxBase + (candidateOff s + candidateLen s - 1) by omega]
  have hsplit := State.bytes_add s (candidateLen s - 2) 2 (rxBase + candidateOff s)
  rw [Nat.sub_add_cancel (by omega)] at hsplit
  rw [hsplit, hlast]
  exact crc16_append_crcBytes _ _

/-! ### What the candidate's place and its parts depend on (R150 to R158) -/

/-- Two states that place the candidate alike: the same lengths, and the same byte right after the echo if there is one. -/
def SameSplit (s s' : State) : Prop :=
  s'.txLen = s.txLen ∧ s'.rxLen = s.rxLen ∧
  (echoLen s < rxCount s → s'.rxBuf (echoLen s) = s.rxBuf (echoLen s))

theorem SameParseInputs.sameSplit {s s' : State} (h : SameParseInputs s s') : SameSplit s s' := by
  obtain ⟨-, htx, -, hrx, hbytes⟩ := h
  exact ⟨htx, hrx, hbytes _⟩

namespace SameSplit
variable {s s' : State} (h : SameSplit s s')
include h

theorem rxCount_eq : rxCount s' = rxCount s := congrArg BitVec.toNat h.2.1

theorem echoLen_eq : echoLen s' = echoLen s := congrArg BitVec.toNat h.1

theorem echoIsShort_eq : echoIsShort s' = echoIsShort s := by
  rw [echoIsShort, h.rxCount_eq, h.echoLen_eq, echoIsShort]

theorem nulFollows_eq : nulFollows s' = nulFollows s := by
  rw [nulFollows, h.rxCount_eq, h.echoLen_eq, nulFollows]
  by_cases hn : echoLen s < rxCount s
  · rw [h.2.2 hn]
  · simp [hn]

theorem candidateOff_eq : candidateOff s' = candidateOff s := by
  rw [candidateOff, h.rxCount_eq, h.echoLen_eq, h.nulFollows_eq, candidateOff]

theorem candidateLen_eq : candidateLen s' = candidateLen s := by
  rw [candidateLen, h.rxCount_eq, h.candidateOff_eq, candidateLen]

theorem receivedCrc_eq
    (hhi : s'.rxBuf (candidateOff s + candidateLen s - 1) = s.rxBuf (candidateOff s + candidateLen s - 1))
    (hlo : s'.rxBuf (candidateOff s + candidateLen s - 2) = s.rxBuf (candidateOff s + candidateLen s - 2)) :
    receivedCrc s' = receivedCrc s := by
  rw [receivedCrc, h.candidateOff_eq, h.candidateLen_eq, hhi, hlo, receivedCrc]

theorem computedCrc_eq
    (hb : ∀ k, k < candidateLen s - 2 → s'.rxBuf (candidateOff s + k) = s.rxBuf (candidateOff s + k)) :
    computedCrc s' = computedCrc s := by
  rw [computedCrc, h.candidateOff_eq, h.candidateLen_eq, computedCrc]
  refine congrArg _ (State.bytes_congr _ fun x hlo hhi => ?_)
  obtain ⟨k, rfl⟩ := Nat.exists_eq_add_of_le hlo
  rw [Nat.add_assoc]
  exact hb k (by omega)

/-- One changed byte among the last two changes the received CRC. -/
theorem receivedCrc_ne {k : Nat} (hlo : candidateOff s + candidateLen s - 2 ≤ k)
    (hhi : k < candidateOff s + candidateLen s) (hne : s'.rxBuf k ≠ s.rxBuf k) : receivedCrc s' ≠ receivedCrc s := by
  intro heq
  have hbytes := congrArg crcBytes heq
  rw [crcBytes_receivedCrc, crcBytes_receivedCrc, h.candidateOff_eq, h.candidateLen_eq] at hbytes
  obtain ⟨hfst, hsnd⟩ : _ ∧ _ := by simpa only [List.cons.injEq, and_true] using hbytes
  obtain rfl | rfl : k = candidateOff s + candidateLen s - 2 ∨ k = candidateOff s + candidateLen s - 1 := by omega
  · exact hne hfst
  · exact hne hsnd

/-- One changed byte before the last two changes the computed CRC. -/
theorem computedCrc_ne {k : Nat} (hk : k < candidateLen s - 2)
    (hb : ∀ j, j < candidateLen s - 2 → j ≠ k → s'.rxBuf (candidateOff s + j) = s.rxBuf (candidateOff s + j))
    (hne : s'.rxBuf (candidateOff s + k) ≠ s.rxBuf (candidateOff s + k)) : computedCrc s' ≠ computedCrc s := by
  have hrx (x : State) (j : Nat) : x.byte (rxBase + candidateOff s + j) = x.rxBuf (candidateOff s + j) := by
    rw [Nat.add_assoc, State.rxBuf]
  have hpre : s'.bytes (rxBase + candidateOff s) k = s.bytes (rxBase + candidateOff s) k := by
    refine State.bytes_congr _ fun x hlo hhi => ?_
    obtain ⟨j, rfl⟩ := Nat.exists_eq_add_of_le hlo
    rw [hrx, hrx]
    exact hb j (by omega) (by omega)
  have hpost : s'.bytes (rxBase + candidateOff s + k + 1) (candidateLen s - 2 - k - 1) =
      s.bytes (rxBase + candidateOff s + k + 1) (candidateLen s - 2 - k - 1) := by
    refine State.bytes_congr _ fun x hlo hhi => ?_
    obtain ⟨j, rfl⟩ := Nat.exists_eq_add_of_le (show rxBase + candidateOff s ≤ x by omega)
    rw [hrx, hrx]
    exact hb j (by omega) (by omega)
  rw [computedCrc, computedCrc, h.candidateOff_eq, h.candidateLen_eq, bytes_eq_append_cons s' _ hk,
    bytes_eq_append_cons s _ hk, hpre, hpost, hrx, hrx]
  exact crc16_ne_of_byte_ne hne _ _ _

end SameSplit

namespace SameParseInputs
variable {s s' : State} (h : SameParseInputs s s')
include h

/-- The candidate's bytes lie below RX_LEN. -/
theorem rxBuf_eq {k : Nat} (hk : k < candidateOff s + candidateLen s) : s'.rxBuf k = s.rxBuf k := by
  have hsum := candidateOff_add_len s
  obtain ⟨-, -, -, -, hbytes⟩ := h
  exact hbytes k (hk.trans_eq hsum)

theorem computedCrc_eq : computedCrc s' = computedCrc s :=
  h.sameSplit.computedCrc_eq fun _ _ => h.rxBuf_eq (by omega)

theorem receivedCrc_eq (h4 : 4 ≤ candidateLen s) : receivedCrc s' = receivedCrc s :=
  h.sameSplit.receivedCrc_eq (h.rxBuf_eq (by omega)) (h.rxBuf_eq (by omega))

theorem respByteCount_eq (h4 : 4 ≤ candidateLen s) : respByteCount s' = respByteCount s := by
  rw [respByteCount, h.sameSplit.candidateOff_eq]
  exact h.rxBuf_eq (by omega)

theorem sameParseResult_locateCandidate : SameParseResult (locateCandidate s) (locateCandidate s') := by
  simp [SameParseResult, h.sameSplit.nulFollows_eq, h.sameSplit.echoIsShort_eq, h.sameSplit.candidateOff_eq,
    h.sameSplit.candidateLen_eq]

/-- PARSE comes to the same results from the same operands (R150). -/
theorem parseCandidate_eq :
    SameParseResult (parseCandidate s) (parseCandidate s') ∧ (parseCandidate s').code = (parseCandidate s).code ∧
      (4 ≤ candidateLen s → (parseCandidate s').crc = (parseCandidate s).crc) := by
  have hloc := h.sameParseResult_locateCandidate
  have hlen := h.sameSplit.candidateLen_eq
  obtain h4 | h4 := Nat.lt_or_ge (candidateLen s) 4
  · rw [parseCandidate_of_unchecked h4, parseCandidate_of_unchecked (hlen.trans_lt h4), hlen]
    exact ⟨hloc, rfl, fun hge => absurd h4 (Nat.not_lt.mpr hge)⟩
  · have hreceived := h.receivedCrc_eq h4
    have hcomputed := h.computedCrc_eq
    obtain ⟨hnul, hecho, hoff, hresp, -⟩ := hloc
    have ⟨_, _, hfc, _, _⟩ := h
    rw [parseCandidate_of_checked h4, parseCandidate_of_checked (h4.trans_eq hlen.symm), acceptPayload, acceptPayload,
      hreceived, hcomputed, h.respByteCount_eq h4, hlen, hfc, h.sameSplit.candidateOff_eq]
    split_ifs <;>
      exact ⟨⟨hnul, hecho, hoff, hresp, rfl, rfl, hreceived, hcomputed⟩, rfl, fun _ => hcomputed⟩

end SameParseInputs

/-! ### What PARSE leaves unchanged (R150, R159; 10_state.md R44) -/

theorem parseAbort_frame (c : StatusCode) (s : State) :
    SameOperands s (parseAbort c s) ∧ SameHostSide s (parseAbort c s) ∧ SameStorage s (parseAbort c s) :=
  ⟨by simp [SameOperands], by simp [SameHostSide], sameStorage_parseAbort c s⟩

theorem parseCandidate_frame (s : State) :
    SameOperands s (parseCandidate s) ∧ SameHostSide s (parseCandidate s) ∧ SameStorage s (parseCandidate s) := by
  obtain ⟨_, _, _, _, _, _, heq⟩ := parseCandidate_eq_updates s
  simp [heq, SameOperands, SameHostSide, SameStorage, SameFrame]

section
variable {s t : State} (ht : exec .parse s = .next t)
include ht

theorem exec_parse_frame : SameOperands s t ∧ SameHostSide s t ∧ SameStorage s t := by
  by_cases hr : ParseReady s
  · rw [eq_parseCandidate_of_ready hr ht]
    exact parseCandidate_frame s
  · obtain ⟨c, -, rfl⟩ := eq_parseAbort_of_not_ready hr ht
    exact parseAbort_frame c s

/-- PARSE writes `crc` only where it computes a CRC. -/
theorem exec_parse_crc (h : ¬ParseReady s ∨ t.respLen.toNat < 4) : t.crc = s.crc := by
  by_cases hr : ParseReady s
  · rw [eq_parseCandidate_of_ready hr ht, toNat_parseCandidate_respLen] at h
    rw [eq_parseCandidate_of_ready hr ht, parseCandidate_of_unchecked (h.resolve_left (not_not_intro hr))]
    rfl
  · obtain ⟨c, -, rfl⟩ := eq_parseAbort_of_not_ready hr ht
    rfl

theorem exec_parse_sameParseInputs : SameParseInputs s t := by
  obtain ⟨⟨-, -, -, -, -, hrx⟩, -, hstore⟩ := exec_parse_frame ht
  have ⟨_, _, hv, htx, hfc⟩ := hstore
  exact ⟨hv, htx, hfc, hrx, fun _ _ => hstore.byte_eq _⟩

end

/-- Two states are equal when they agree on every part of the state. -/
theorem State.eq_of_same {s t : State} (hops : SameOperands s t) (hhost : SameHostSide s t) (hstore : SameStorage s t)
    (hres : SameParseResult s t) (hcode : t.code = s.code) (hcrc : t.crc = s.crc) : t = s := by
  cases s
  cases t
  simp only [SameOperands, SameHostSide, SameStorage, SameFrame, SameParseResult] at hops hhost hstore hres hcode hcrc
  simp only [hops, hhost, hstore, hres, hcode, hcrc]

/-! ### The statements -/

/-- Settles O20: PARSE takes one of its two aborts. -/
theorem parseAborts : Obligations.ParseAborts :=
  ⟨fun _ hv => exec_parse_of_no_frame hv, fun _ hv hn => exec_parse_of_overlong hv hn⟩

/-- Settles O21: the flags and the candidate's place are those of `locateCandidate`. -/
theorem parseSplitsReceivedBytes : Obligations.ParseSplitsReceivedBytes := by
  intro s h
  refine ⟨_, exec_parse_of_ready h, ?_, ?_, ?_, ?_⟩
  · rw [parseCandidate_echoShort, echoIsShort, decide_eq_true_iff]
    rfl
  · rw [parseCandidate_nulSkipped, nulFollows, Bool.and_eq_true, decide_eq_true_iff, beq_iff_eq]
    rfl
  · rw [toNat_parseCandidate_respOff, parseCandidate_nulSkipped, candidateOff]
    cases nulFollows s <;> rfl
  · rw [toNat_parseCandidate_respOff, toNat_parseCandidate_respLen]
    rfl

/-- Settles O22: a candidate below 4 bytes is reported before any CRC is computed. -/
theorem parseEmptyOrShortCandidate : Obligations.ParseEmptyOrShortCandidate := by
  intro s t h ht
  rw [eq_parseCandidate_of_ready h ht, toNat_parseCandidate_respLen]
  refine ⟨fun h0 => ?_, fun ⟨hlo, hhi⟩ => ?_, fun hhi => ?_⟩
  · rw [parseCandidate_of_unchecked (by omega), if_pos h0]
    rfl
  · rw [parseCandidate_of_unchecked (by omega), if_neg (by omega)]
    rfl
  · rw [parseCandidate_of_unchecked (by omega)]
    exact ⟨rfl, rfl, rfl, rfl, rfl⟩

/-- Settles O23: the CRC check is recorded in every outcome it reaches, and CRC_ERROR is the outcome of a difference. -/
theorem parseChecksCrc : Obligations.ParseChecksCrc := by
  intro s t h ht h4
  obtain rfl := eq_parseCandidate_of_ready h ht
  rw [toNat_parseCandidate_respLen] at h4
  obtain ⟨hcrc, hreceived, hcomputed⟩ := parseCandidate_records_crc h4
  rw [hcrc, hreceived, hcomputed, toNat_parseCandidate_respOff, toNat_parseCandidate_respLen, candidate_parseCandidate,
    take_bytes _ _ (Nat.sub_le _ _)]
  exact ⟨toNat_receivedCrc s, rfl, rfl, (parseCandidate_code_eq_crcError_iff h4).symm,
    fun hcode => noPayload_of_code_ne_ok (by rw [hcode]; exact nofun)⟩

/-- Settles O24: after a good CRC `acceptPayload` compares the length with the byte count. -/
theorem parseReadResponse : Obligations.ParseReadResponse := by
  intro s t h ht h4 hgood hfc
  obtain ⟨rfl, h4, hgood⟩ := goodCrc_of_exec_parse h ht h4 hgood
  rw [toNat_parseCandidate_respOff, toNat_parseCandidate_respLen]
  refine ⟨fun hlen => parseCandidate_readPayload hgood hfc hlen, fun hlen => ?_⟩
  have hne : candidateLen s ≠ (respByteCount s).toNat + 5 := hlen
  rw [parseCandidate_of_goodCrc h4 hgood, acceptPayload, if_pos hfc, if_pos hne]
  exact ⟨rfl, rfl, rfl⟩

/-- Settles O25: after a good CRC `acceptPayload` accepts a write response without a payload, and no byte is stored. -/
theorem parseWriteResponse : Obligations.ParseWriteResponse := by
  intro s t h ht h4 hgood hfc
  obtain ⟨rfl, h4, hgood⟩ := goodCrc_of_exec_parse h ht h4 hgood
  have hread : ¬(s.frameFc = 0x03 ∨ s.frameFc = 0x04) := by
    rw [hfc]
    decide
  rw [toNat_parseCandidate_respOff, toNat_parseCandidate_respLen, candidate_parseCandidate,
    parseCandidate_of_goodCrc h4 hgood, acceptPayload, if_neg hread]
  exact ⟨rfl, ⟨rfl, rfl⟩, rfl⟩

/-- Settles O27: both aborts and every outcome on a candidate share the frame of `exec_parse_frame`. -/
theorem parseFrameCondition : Obligations.ParseFrameCondition := by
  intro s
  obtain ⟨t, ht⟩ := exec_completes .parse s
  obtain ⟨hops, hhost, hstore⟩ := exec_parse_frame ht
  have ⟨hmem, _, hframe⟩ := hstore
  exact ⟨t, ht, hops, hframe, hhost, hstore.byte_eq, hmem, exec_parse_crc ht⟩

/-- Settles O28: a success passed the CRC check, so the whole candidate has CRC 0 (`crc16_candidate_eq_zero`), and a read's
length is its byte count plus 5. -/
theorem parseOkEstablishes : Obligations.ParseOkEstablishes := by
  intro s t ht
  by_cases hr : ParseReady s
  · obtain ⟨⟨-, -, -, -, -, hrx⟩, -⟩ := exec_parse_frame ht
    obtain rfl := eq_parseCandidate_of_ready hr ht
    refine ⟨fun hok => ?_, noPayload_of_code_ne_ok⟩
    obtain ⟨h4, hgood, hread⟩ := accepted_of_code_eq_ok hok
    obtain ⟨-, hreceived, -⟩ := parseCandidate_records_crc h4
    rw [candidate_parseCandidate, toNat_parseCandidate_respLen, take_bytes _ _ (Nat.sub_le _ _), hreceived, hgood, hrx]
    refine ⟨h4, rfl, crc16_candidate_eq_zero h4 hgood, fun hfc => ?_⟩
    obtain ⟨-, hoff, hcount⟩ := parseCandidate_readPayload hgood hfc (hread hfc)
    have hlen := hread hfc
    have hsum : candidateOff s + candidateLen s = s.rxLen.toNat := candidateOff_add_len s
    rw [hoff, hcount]
    omega
  · obtain ⟨c, hc, rfl⟩ := eq_parseAbort_of_not_ready hr ht
    exact ⟨fun hok => absurd hok hc, fun _ => ⟨rfl, rfl⟩⟩

/-- Settles O30: the two aborts are decided by the operands, and a candidate by them and its bytes
(`SameParseInputs.parseCandidate_eq`). -/
theorem parseReadsOnlyItsOperands : Obligations.ParseReadsOnlyItsOperands := by
  intro s s' h
  have ⟨hv, _, _, hrx, _⟩ := h
  rcases execParse_cases s with ⟨hvs, heq⟩ | ⟨hvs, hn, heq⟩ | ⟨hvs, hn, heq⟩
  · exact ⟨_, _, heq, exec_parse_of_no_frame (hv.trans hvs), by simp [SameParseResult], rfl,
      fun hr => absurd (hvs.symm.trans hr.1) nofun⟩
  · refine ⟨_, _, heq, exec_parse_of_overlong (hv.trans hvs) (by rw [hrx]; exact hn), by simp [SameParseResult], rfl,
      fun hr => absurd hn (Nat.not_lt.mpr hr.2)⟩
  · obtain ⟨hres, hcode, hcrc⟩ := h.parseCandidate_eq
    refine ⟨_, _, heq, exec_parse_of_ready ⟨hv.trans hvs, by rw [hrx]; exact hn⟩, hres, hcode, fun _ h4 => hcrc ?_⟩
    rwa [toNat_parseCandidate_respLen] at h4

/-- Settles O29: PARSE leaves its own operands alone, so the second run comes to the results already there (O30), and whatever it
does not write is unchanged (O27). -/
theorem parseIsRepeatable : Obligations.ParseIsRepeatable := by
  intro s t ht
  have hin := exec_parse_sameParseInputs ht
  obtain ⟨t₁, u, ht₁, hu, hres, hcode, hchecked⟩ := parseReadsOnlyItsOperands s t hin
  cases ht.symm.trans ht₁
  obtain ⟨hops, hhost, hstore⟩ := exec_parse_frame hu
  have hcrc : u.crc = t.crc := by
    by_cases h : ParseReady s ∧ 4 ≤ t.respLen.toNat
    · exact hchecked h.1 h.2
    · refine exec_parse_crc hu ?_
      obtain ⟨hv, -, -, hrx, -⟩ := hin
      have ⟨_, _, _, hlen, _⟩ := hres
      rw [ParseReady, hv, hrx, hlen, ← Nat.not_le]
      exact not_and_or.mp h
  rw [hu, State.eq_of_same hops hhost hstore hres hcode hcrc]

/-- Settles O32: the changed byte is not the one that decides the skip, so the candidate stays where it is; a byte before the last
two changes the computed CRC alone, one of the last two the received CRC alone. -/
theorem parseDetectsOneCorruptedByte : Obligations.ParseDetectsOneCorruptedByte := by
  intro s s' t k ht hok hv htx hfc hrx hecho hlo hhi hother hchanged
  have hr := ready_of_code_eq_ok ht hok
  obtain rfl := eq_parseCandidate_of_ready hr ht
  rw [toNat_parseCandidate_respOff] at hlo
  obtain ⟨h4, hgood, -⟩ := accepted_of_code_eq_ok hok
  have hsum : candidateOff s + candidateLen s = s.rxLen.toNat := candidateOff_add_len s
  have hsplit : SameSplit s s' := ⟨htx, hrx, fun hn => hother _ hn hecho.ne⟩
  refine ⟨_, exec_parse_of_ready ⟨hv.trans hr.1, by rw [hrx]; exact hr.2⟩,
    (parseCandidate_code_eq_crcError_iff (h4.trans_eq hsplit.candidateLen_eq.symm)).mpr ?_⟩
  obtain ⟨j, rfl⟩ := Nat.exists_eq_add_of_le hlo
  obtain hj | hj := Nat.lt_or_ge j (candidateLen s - 2)
  · rw [hsplit.receivedCrc_eq (hother _ (by omega) (by omega)) (hother _ (by omega) (by omega)), hgood]
    exact (hsplit.computedCrc_ne hj (fun i hi hne => hother _ (by omega) (by omega)) hchanged).symm
  · rw [hsplit.computedCrc_eq fun i hi => hother _ (by omega) (by omega), ← hgood]
    exact hsplit.receivedCrc_ne (by omega) (by omega) hchanged

end Sys2Proof.Machine

/-! SUPPORT. The family of 43_control.md: the step that takes a write to CMD, and what NOP and a reserved OP do when written there. -/

namespace Sys2Proof.Machine

/-! ### A write to CMD (10_state.md R22) -/

/-- A store to CMD runs the command of its word; the other registers have `onEvent_write_reg`. -/
theorem onEvent_write_cmd (s : State) (w : Word) : onEvent (.write 0x000 4 w) s = runCommand w s := by
  have hdefined : accessRefusal 0x000 4 = Option.none := accessRefusal_reg .cmd
  have hregion : regionOf 0x000 = .reg .cmd := regionOf_reg .cmd
  rw [onEvent_write hdefined, busWrite, hregion]

/-- The step that takes a write to CMD runs the command of its word on the state with the event taken (R22, R74). -/
theorem step_write_cmd {s : State} {w : Word} {es : List HostEvent} (h : s.pending = .write 0x000 4 w :: es) :
    step s = runCommand w (s.setPending es) :=
  (step_event h).trans (onEvent_write_cmd (s.setPending es) w)

/-! ### The statements -/

/-- Settles O5: the step runs the write to CMD (`step_write_cmd`), and its reserved OP reports ILLEGAL_OP alone
(`runCommand_of_reserved`). -/
theorem stepReservedOpcode : Obligations.StepReservedOpcode := by
  intro s w rest hpending hop
  have hreserved : opField w ∉ commandOps := opField_not_mem_commandOps.mpr hop
  exact (step_write_cmd hpending).trans (runCommand_of_reserved hreserved (s.setPending rest))

/-- Settles O36: the effect of NOP, which the low byte 0 selects whatever the other bits are. -/
theorem nopChangesNothing : Obligations.NopChangesNothing := by
  refine ⟨exec_nop, fun s w hw => ?_⟩
  have hdec : decode w = .ok .nop := (decode_eq_ok_iff_mod (i := .nop) nofun).mpr hw
  exact (runCommand_of_decode hdec s).trans (exec_nop s)

end Sys2Proof.Machine

/-! SUPPORT. The family of 60_exceptions.md: the codes the commands leave, runs that never stop, and the exchange: what one attempt
leaves, and how the loop of attempts ends. -/

namespace Sys2Proof.Machine

/-! ### The codes of the commands (R184, R185) -/

theorem acceptPayload_code (s t : State) : (acceptPayload s t).code =
    if (s.frameFc = 0x03 ∨ s.frameFc = 0x04) ∧ candidateLen s ≠ (respByteCount s).toNat + 5 then .bcntError else .ok := by
  rw [acceptPayload, ite_and, apply_ite State.code, apply_ite State.code]
  rfl

/-- Once the CRC is checked, PARSE reports a bad one, then a length that its byte count does not give (R184). -/
theorem parseCandidate_code_of_checked {s : State} (h : 4 ≤ candidateLen s) : (parseCandidate s).code =
    if (parseCandidate s).rxReceived ≠ (parseCandidate s).rxComputed then .crcError
    else if (s.frameFc = 0x03 ∨ s.frameFc = 0x04) ∧ candidateLen s ≠ (respByteCount s).toNat + 5 then .bcntError
    else .ok := by
  obtain ⟨-, hreceived, hcomputed⟩ := parseCandidate_records_crc h
  rw [hreceived, hcomputed, parseCandidate_of_checked h, apply_ite State.code, acceptPayload_code]
  rfl

/-- Beside PARSE and NOP only a failed BUILD_WMR reports an error. -/
theorem exec_code_eq_ok_or_paramError {i : Instr} (hparse : i ≠ .parse) (hnop : i ≠ .nop) {s t : State}
    (ht : exec i s = .next t) : t.code = .ok ∨ i = .buildWmr ∧ t.code = .paramError := by
  cases i with
  | nop => exact absurd rfl hnop
  | parse => exact absurd rfl hparse
  | buildWmr =>
    rcases execBuildWmr_cases s with ⟨-, heq⟩ | ⟨-, heq⟩ <;> cases heq.symm.trans ht
    · exact .inl rfl
    · exact .inr ⟨rfl, rfl⟩
  | buildRhr => cases ht; exact .inl rfl
  | buildRir => cases ht; exact .inl rfl
  | crcReset => cases ht; exact .inl rfl
  | crcByte b => cases ht; exact .inl rfl

/-! ### Defined events complete and leave the events to come (R180) -/

theorem definedAccess_iff {off width : Nat} :
    definedAccess off width = true ↔ accessRefusal off width = Option.none := by
  have hwindow : decide (off < Config.window) = true ↔ off < 0x800 := decide_eq_true_iff
  rw [accessRefusal_eq_none, definedAccess, Bool.and_eq_true, Bool.and_eq_true, beq_iff_eq, beq_iff_eq, hwindow]
  exact and_comm

theorem exec_sameHostSide {i : Instr} {s t : State} (ht : exec i s = .next t) : SameHostSide s t := by
  cases i with
  | buildWmr =>
    rcases execBuildWmr_cases s with ⟨-, heq⟩ | ⟨-, heq⟩ <;> cases heq.symm.trans ht <;> simp [SameHostSide]
  | parse =>
    obtain ⟨-, hhost, -⟩ := exec_parse_frame ht
    exact hhost
  | nop => cases ht; exact ⟨rfl, rfl, rfl⟩
  | buildRhr => cases ht; simp [SameHostSide]
  | buildRir => cases ht; simp [SameHostSide]
  | crcReset => cases ht; exact ⟨rfl, rfl, rfl⟩
  | crcByte b => cases ht; exact ⟨rfl, rfl, rfl⟩

theorem runCommand_sameHostSide {w : Word} {s t : State} (ht : runCommand w s = .next t) : SameHostSide s t := by
  rcases runCommand_cases w s with ⟨i, -, heq⟩ | ⟨e, -, heq⟩ <;> rw [heq] at ht
  · exact exec_sameHostSide ht
  · cases ht
    exact ⟨rfl, rfl, rfl⟩

theorem busWrite_sameHostSide {s t : State} {off : Nat} {w : Word} (ht : busWrite s off w = .next t) :
    SameHostSide s t := by
  rcases busWrite_cases s off w with ⟨-, heq⟩ | ⟨r, -, -, heq⟩ | ⟨-, -, heq⟩ | ⟨-, heq⟩ | heq <;> rw [heq] at ht
  · exact runCommand_sameHostSide ht
  all_goals cases ht
  · cases r <;> exact ⟨rfl, rfl, rfl⟩
  all_goals exact ⟨rfl, rfl, rfl⟩

theorem onEvent_completes {e : HostEvent} (h : e.wellFormed = true) (s : State) :
    ∃ t, onEvent e s = .next t ∧ t.pending = s.pending := by
  cases e with
  | reset => exact ⟨_, rfl, rfl⟩
  | read off width => exact ⟨_, onEvent_read (definedAccess_iff.mp h), rfl⟩
  | write off width w =>
    obtain ⟨t, ht⟩ := busWrite_completes s off w
    obtain ⟨-, hpending, -⟩ := busWrite_sameHostSide ht
    exact ⟨t, (onEvent_write (definedAccess_iff.mp h)).trans ht, hpending⟩

theorem SafeState.step {s : State} (h : SafeState s) : ∃ t, step s = .next t ∧ SafeState t := by
  cases hp : s.pending with
  | nil => exact ⟨s, step_idle hp, h⟩
  | cons e es =>
    obtain ⟨hdefined, hinv⟩ := h
    rw [hp, List.forall_mem_cons] at hdefined
    obtain ⟨he, hes⟩ := hdefined
    obtain ⟨t, ht, hpending⟩ := onEvent_completes he (s.setPending es)
    have hstep : Machine.step s = .next t := (step_event hp).trans ht
    exact ⟨t, hstep, hpending ▸ hes, hinv.step hstep⟩

theorem core_run_succ {s u : State} (h : step s = .next u) (n : Nat) :
    Host.Core.run core (n + 1) s = Host.Core.run core n u := by
  have hcore : core.step s = .next u := h
  simp only [Host.Core.run, hcore]

/-! ### Programs that end with a command (30_encoding.md R94) -/

theorem andThen_eq_next {α β : Type} {o : Host.Outcome α Fault Refusal} {f : α → Host.Outcome β Fault Refusal} {b : β} :
    andThen o f = .next b ↔ ∃ a, o = .next a ∧ f a = .next b := by
  cases o <;> simp [andThen]

theorem decode_encode (i : Instr) : decode (encode i) = .ok i := by
  cases i with
  | crcByte b =>
    obtain ⟨hop, harg, -⟩ := Laws.Encoding.crcByte b
    exact decode_eq_ok.mpr ⟨hop, fun c hc => (Instr.crcByte.inj hc).symm.trans harg.symm⟩
  | _ => rfl

theorem onEvent_cmd (i : Instr) (s : State) : onEvent (cmd i) s = exec i s :=
  (onEvent_write_cmd s _).trans (runCommand_of_decode (decode_encode i) s)

theorem runEvents_append_cmd (es : List HostEvent) (i : Instr) (s : State) :
    runEvents (es ++ [cmd i]) s = andThen (runEvents es s) (exec i) := by
  have hlast : runEvents [cmd i] = exec i := funext fun u => by
    obtain ⟨t, ht⟩ := exec_completes i u
    rw [runEvents_cons ((onEvent_cmd i u).trans ht), ht]
    rfl
  rw [runEvents_append, hlast]

/-- A store to a register other than CMD, then the rest of the program. -/
theorem runEvents_sw {r : Reg} (hr : r ≠ .cmd) (v : Word) (es : List HostEvent) (s : State) :
    runEvents (sw r v :: es) s = runEvents es (regStore s v r) :=
  runEvents_cons (onEvent_write_reg s v hr)

/-! ### One attempt (R192, R195) -/

/-- The frame registers and the frame's bytes are the same (10_state.md R44). -/
def RetainsFrame (s t : State) : Prop := SameFrame s t ∧ t.frame = s.frame

theorem RetainsFrame.refl (s : State) : RetainsFrame s s := ⟨⟨rfl, rfl, rfl⟩, rfl⟩

theorem RetainsFrame.trans {s t u : State} (h : RetainsFrame s t) (h' : RetainsFrame t u) : RetainsFrame s u := by
  obtain ⟨⟨hv, hl, hc⟩, hf⟩ := h
  obtain ⟨⟨hv', hl', hc'⟩, hf'⟩ := h'
  exact ⟨⟨hv'.trans hv, hl'.trans hl, hc'.trans hc⟩, hf'.trans hf⟩

theorem exec_parse_retainsFrame {s t : State} (ht : exec .parse s = .next t) : RetainsFrame s t := by
  obtain ⟨-, -, hstore⟩ := exec_parse_frame ht
  have ⟨_, _, hframe⟩ := hstore
  have ⟨_, hlen, _⟩ := hframe
  exact ⟨hframe, frame_congr hlen fun a _ _ => hstore.byte_eq a⟩

/-- The received bytes are `bs` (10_state.md R32, R42). -/
def HasReceived (bs : List Byte) (s : State) : Prop :=
  s.rxLen = BitVec.ofNat 11 bs.length ∧ s.bytes rxBase bs.length = bs

theorem HasReceived.rxBuf_eq {bs : List Byte} {s : State} (h : HasReceived bs s) {k : Nat} (hk : k < s.rxLen.toNat) :
    some (s.rxBuf k) = bs[k]? := by
  obtain ⟨hn, hb⟩ := h
  rw [hn, BitVec.toNat_ofNat] at hk
  rw [State.rxBuf, ← State.getElem?_bytes s bs.length rxBase k (hk.trans_le (Nat.mod_le _ _)), hb]

/-- The frame and the same received bytes are all that PARSE reads (42_parser.md R150). -/
theorem sameParseInputs_of_received {s s' : State} {bs : List Byte} (hframe : SameFrame s s') (h : HasReceived bs s)
    (h' : HasReceived bs s') : SameParseInputs s s' := by
  obtain ⟨hvalid, hlen, hfc⟩ := hframe
  have hrx : s'.rxLen = s.rxLen := h'.1.trans h.1.symm
  exact ⟨hvalid, hlen, hfc, hrx, fun k hk =>
    Option.some.inj ((h'.rxBuf_eq (by rwa [hrx])).trans (h.rxBuf_eq hk).symm)⟩

/-- rx.load completes and keeps the frame (30_encoding.md R95). -/
theorem rxLoad_completes {bs : List Byte} (h : bs.length ≤ 1024) (s : State) :
    ∃ u, runEvents (rxLoad bs) s = .next u ∧ RetainsFrame s u ∧ HasReceived bs u := by
  obtain ⟨u, hu, hbytes, heq, hbelow⟩ := rxLoadPlacesBytes s bs h
  have hframe : SameFrame s u := by
    rw [heq]
    exact ⟨rfl, rfl, rfl⟩
  have hrx : u.rxLen = BitVec.ofNat 11 bs.length := by rw [heq]
  have ⟨_, hlen, _⟩ := hframe
  exact ⟨u, hu, ⟨hframe, frame_congr hlen fun a _ ha => hbelow a ha⟩, hrx, hbytes⟩

/-- An attempt on received bytes is a PARSE of those bytes in a state that retains the frame. -/
theorem attempt_received (bytes : List Byte) (s : State) :
    ∃ u t, RetainsFrame s u ∧ HasReceived (bytes.take 1024) u ∧ exec .parse u = .next t ∧
      attempt (.received bytes) s = .next { state := t, actions := [.transmit s.frame], result := .status t.code } := by
  obtain ⟨u, hu, hframe, hbytes⟩ := rxLoad_completes (List.length_take_le 1024 bytes) s
  obtain ⟨t, ht⟩ := exec_completes .parse u
  have hrun : runEvents (rxLoad (bytes.take Config.rxMax) ++ [cmd .parse]) s = .next t := by
    rw [runEvents_append_cmd]
    exact andThen_eq_next.mpr ⟨u, hu, ht⟩
  exact ⟨u, t, hframe, hbytes, ht, andThen_eq_next.mpr ⟨t, hrun, rfl⟩⟩

theorem attempt_completes (l : LinkOutcome) (s : State) : ∃ r, attempt l s = .next r := by
  cases l with
  | reopenFailed => exact ⟨_, attempt_reopenFailed s⟩
  | ioException => exact ⟨_, attempt_ioException s⟩
  | received bytes =>
    obtain ⟨u, t, -, -, -, heq⟩ := attempt_received bytes s
    exact ⟨_, heq⟩

section
variable {l : LinkOutcome} {s : State} {r : HostRun AttemptResult} (h : attempt l s = .next r)
include h

theorem attempt_retainsFrame : RetainsFrame s r.state := by
  cases l with
  | reopenFailed => cases h; exact .refl s
  | ioException => cases h; exact .refl s
  | received bytes =>
    obtain ⟨u, t, hframe, -, ht, heq⟩ := attempt_received bytes s
    cases heq.symm.trans h
    exact hframe.trans (exec_parse_retainsFrame ht)

/-- An attempt that succeeds has parsed with OK. -/
theorem attempt_parse_of_ok (hok : r.result = .status .ok) :
    r.state.code = .ok ∧ ∃ u, exec .parse u = .next r.state := by
  cases l with
  | reopenFailed => cases h; cases hok
  | ioException => cases h; cases hok
  | received bytes =>
    obtain ⟨u, t, -, -, ht, heq⟩ := attempt_received bytes s
    cases heq.symm.trans h
    exact ⟨AttemptResult.status.inj hok, u, ht⟩

/-- How an attempt ends depends on the retained frame and on the link alone. -/
theorem attempt_result_congr {s' : State} {r' : HostRun AttemptResult} (hframe : SameFrame s s')
    (h' : attempt l s' = .next r') : r'.result = r.result := by
  cases l with
  | reopenFailed => cases h; cases h'; rfl
  | ioException => cases h; cases h'; rfl
  | received bytes =>
    obtain ⟨u, t, ⟨⟨hv, hl, hc⟩, -⟩, hbytes, ht, heq⟩ := attempt_received bytes s
    obtain ⟨u', t', ⟨⟨hv', hl', hc'⟩, -⟩, hbytes', ht', heq'⟩ := attempt_received bytes s'
    cases heq.symm.trans h
    cases heq'.symm.trans h'
    obtain ⟨hvs, hls, hcs⟩ := hframe
    have hsame : SameFrame u u' := ⟨by rw [hv', hvs, hv], by rw [hl', hls, hl], by rw [hc', hcs, hc]⟩
    obtain ⟨x, x', hx, hx', -, hcode, -⟩ :=
      parseReadsOnlyItsOperands u u' (sameParseInputs_of_received hsame hbytes hbytes')
    cases ht.symm.trans hx
    cases ht'.symm.trans hx'
    exact congrArg AttemptResult.status hcode

end

/-! ### What the attempts do to the link (R195) -/

section
variable (p : Config.HostParams) (link : Nat → LinkOutcome) (f : List Byte)

/-- What stands before attempt `k + 1`: the first `k` attempts, each followed by a reopening and the backoff. -/
def actionsBefore : Nat → List LinkAction
  | 0 => []
  | k + 1 => actionsOfAttempts p link f (k + 1) ++ [.reopen, .sleep p.backoffMs]

theorem actionsOfAttempts_succ (k : Nat) :
    actionsOfAttempts p link f (k + 1) = actionsBefore p link f k ++ (link (k + 1)).actions f := by
  cases k <;> rfl

theorem transmissions_actionsBefore (k : Nat) :
    transmissions (actionsBefore p link f k) = transmissions (actionsOfAttempts p link f k) := by
  cases k with
  | zero => rfl
  | succ k => rw [actionsBefore, transmissions_append, transmissions_retry, transmissions_nil, Nat.add_zero]

/-- One transmission for each attempt whose reopening did not fail. -/
theorem transmissions_actionsOfAttempts (n : Nat) :
    transmissions (actionsOfAttempts p link f n) = (List.range n).countP fun k => link (k + 1) ≠ .reopenFailed := by
  induction n with
  | zero => rfl
  | succ n ih =>
    rw [actionsOfAttempts_succ, transmissions_append, transmissions_actionsBefore, ih, transmissions_actions,
      List.range_succ, List.countP_append, List.countP_singleton]
    by_cases hl : link (n + 1) = .reopenFailed <;> simp [hl]

theorem reopens_actionsOfAttempts (k : Nat) : reopens (actionsOfAttempts p link f (k + 1)) = k := by
  induction k with
  | zero => exact reopens_actions f (link 1)
  | succ k ih =>
    rw [actionsOfAttempts_succ, reopens_append, reopens_actions, actionsBefore, reopens_append, ih]
    rfl

theorem eq_of_transmit_mem_actions {g : List Byte} {l : LinkOutcome} (h : .transmit g ∈ l.actions f) : g = f := by
  cases l with
  | reopenFailed => cases h
  | ioException => exact LinkAction.transmit.inj (List.mem_singleton.mp h)
  | received bytes => exact LinkAction.transmit.inj (List.mem_singleton.mp h)

theorem eq_of_transmit_mem_actionsOfAttempts {g : List Byte} {n : Nat}
    (h : .transmit g ∈ actionsOfAttempts p link f n) : g = f := by
  induction n with
  | zero => cases h
  | succ n ih =>
    rw [actionsOfAttempts_succ] at h
    rcases List.mem_append.mp h with hbefore | hlast
    · cases n with
      | zero => cases hbefore
      | succ k => exact ih (by simpa [actionsBefore] using hbefore)
    · exact eq_of_transmit_mem_actions f hlast

end

/-! ### How the loop of attempts ends (R192 to R195) -/

section
variable (p : Config.HostParams) (q : Request) (link : Nat → LinkOutcome)

/-- The loop started in `t` ended as `r` with attempt `k + 1`, whose end is `last`, at most `limit` attempts before it. -/
structure AttemptsEnd (t : State) (limit k : Nat) (last : HostRun AttemptResult) (r : HostRun ExchangeResult) : Prop where
  le_limit : k ≤ limit
  exhausted : last.result.retryable = true → k = limit
  last_attempt : ∃ u, RetainsFrame t u ∧ attempt (link (k + 1)) u = .next last
  state_eq : r.state = last.state
  actions_eq : r.actions = actionsOfAttempts p link t.frame (k + 1)
  result_eq : r.result = if last.result = .status .ok then q.success last.state else .failed last.result

variable {p q link}

/-- An attempt after which the loop makes no other decides the exchange. -/
theorem attempts_stop {left a : Nat} {done : List LinkAction} {s : State} {last : HostRun AttemptResult}
    (h : attempt (link a) s = .next last) (hstop : last.result.retryable = true → left = 0) :
    attempts p q link left a done s = .next
      { state := last.state, actions := done ++ last.actions,
        result := if last.result = .status .ok then q.success last.state else .failed last.result } := by
  by_cases hok : last.result = .status .ok
  · rw [attempts_success h hok, if_pos hok]
  · rw [if_neg hok]
    cases hretry : last.result.retryable with
    | false => exact attempts_notRetryable h hok hretry
    | true =>
      obtain rfl := hstop hretry
      exact attempts_exhausted h hok

/-- An attempt after which the loop makes no other ends it. -/
theorem attempts_end_of_stop {t s : State} {left k : Nat} {last : HostRun AttemptResult} (hs : RetainsFrame t s)
    (h : attempt (link (k + 1)) s = .next last) (hstop : last.result.retryable = true → left = 0) :
    ∃ r, attempts p q link left (k + 1) (actionsBefore p link t.frame k) s = .next r ∧
      AttemptsEnd p q link t (k + left) k last r := by
  obtain ⟨hactions, -⟩ := attempt_cases h
  refine ⟨_, attempts_stop h hstop, Nat.le_add_right k left, fun hretry => by rw [hstop hretry, Nat.add_zero],
    ⟨s, hs, h⟩, rfl, ?_, rfl⟩
  rw [actionsOfAttempts_succ, hactions, hs.2]

/-- The loop always ends, and every attempt starts from the frame of the first. -/
theorem attempts_end {t s : State} (left k : Nat) (hs : RetainsFrame t s) :
    ∃ n last r, attempts p q link left (k + 1) (actionsBefore p link t.frame k) s = .next r ∧
      AttemptsEnd p q link t (k + left) n last r := by
  induction left generalizing k s with
  | zero =>
    obtain ⟨last, h⟩ := attempt_completes (link (k + 1)) s
    exact ⟨k, last, attempts_end_of_stop hs h fun _ => rfl⟩
  | succ left ih =>
    obtain ⟨last, h⟩ := attempt_completes (link (k + 1)) s
    by_cases hretry : last.result.retryable = true
    · obtain ⟨hactions, -⟩ := attempt_cases h
      have hdone : actionsBefore p link t.frame k ++ last.actions ++ [.reopen, .sleep p.backoffMs] =
          actionsBefore p link t.frame (k + 1) := by
        rw [actionsBefore, actionsOfAttempts_succ, hactions, hs.2]
      rw [attempts_retry h hretry, hdone, ← Nat.add_assoc, Nat.add_right_comm k left 1]
      exact ih (k + 1) (hs.trans (attempt_retainsFrame h))
    · exact ⟨k, last, attempts_end_of_stop hs h fun hr => absurd hr hretry⟩

theorem exchange_of_built {s t : State} (ht : runEvents q.program s = .next t) (hok : t.code = .ok) :
    ∃ k last r, exchange p q link s = .next r ∧ AttemptsEnd p q link t (p.maxAttempts - 1) k last r := by
  obtain ⟨k, last, r, hr, hend⟩ := attempts_end (p := p) (q := q) (link := link) (p.maxAttempts - 1) 0 (.refl t)
  rw [Nat.zero_add] at hend
  exact ⟨k, last, r, andThen_eq_next.mpr ⟨t, ht, (if_pos hok).trans hr⟩, hend⟩

theorem exchange_of_not_built {s t : State} (ht : runEvents q.program s = .next t) (hne : t.code ≠ .ok) :
    exchange p q link s = .next { state := t, actions := [], result := .failed (.status t.code) } :=
  andThen_eq_next.mpr ⟨t, ht, if_neg hne⟩

/-- The two ways an exchange ends: with its build, or with one of at most MAX_ATTEMPTS attempts. -/
theorem exchange_cases {s : State} {r : HostRun ExchangeResult} (h : exchange p q link s = .next r) :
    ∃ t, runEvents q.program s = .next t ∧
      (r = { state := t, actions := [], result := .failed (.status t.code) } ∨
        ∃ k last, AttemptsEnd p q link t (p.maxAttempts - 1) k last r) := by
  obtain ⟨t, ht, -⟩ := andThen_eq_next.mp h
  refine ⟨t, ht, ?_⟩
  by_cases hok : t.code = .ok
  · obtain ⟨k, last, r', hr, hend⟩ := exchange_of_built (p := p) (link := link) ht hok
    cases hr.symm.trans h
    exact .inr ⟨k, last, hend⟩
  · cases (exchange_of_not_built (p := p) (link := link) ht hok).symm.trans h
    exact .inl rfl

end

section
variable {p : Config.HostParams} {q : Request} {link : Nat → LinkOutcome} {t : State} {limit k : Nat}
  {last : HostRun AttemptResult} {r : HostRun ExchangeResult} (h : AttemptsEnd p q link t limit k last r)
include h

theorem AttemptsEnd.retainsFrame : RetainsFrame t r.state := by
  obtain ⟨u, hframe, hu⟩ := h.last_attempt
  rw [h.state_eq]
  exact hframe.trans (attempt_retainsFrame hu)

/-- Only a read whose last attempt succeeded returns a payload, and it is the one that the block names. -/
theorem AttemptsEnd.payload {bs : List Byte} (hbs : r.result = .payload bs) :
    last.result = .status .ok ∧ bs = Machine.payload r.state ∧
      ∃ a n c, q = .readHolding a n c ∨ q = .readInput a n c := by
  have hresult := h.result_eq.symm.trans hbs
  split at hresult
  · next hok =>
    rw [h.state_eq]
    cases q with
    | readHolding a n c => cases hresult; exact ⟨hok, rfl, a, n, c, .inl rfl⟩
    | readInput a n c => cases hresult; exact ⟨hok, rfl, a, n, c, .inr rfl⟩
    | writeMultiple a n c bc data => cases hresult
  · cases hresult

end

/-! ### What the BUILD of an exchange leaves (30_encoding.md R95) -/

/-- The program of a read ends with its BUILD, which retains its function code. -/
theorem frameFc_of_read_program {s t : State} {a : Byte} {n c : Half}
    (h : runEvents (buildRhrProgram a n c) s = .next t ∨ runEvents (buildRirProgram a n c) s = .next t) :
    t.frameFc = 0x03 ∨ t.frameFc = 0x04 := by
  rcases h with h | h
  · rw [buildRhrProgram, runEvents_append_cmd] at h
    obtain ⟨u, -, hu⟩ := andThen_eq_next.mp h
    cases hu
    exact .inl (emit_frameFc _ _ _)
  · rw [buildRirProgram, runEvents_append_cmd] at h
    obtain ⟨u, -, hu⟩ := andThen_eq_next.mp h
    cases hu
    exact .inr (emit_frameFc _ _ _)

/-- data.load completes for a list that DATABUF holds, and DATA_LEN is its length. -/
theorem runEvents_dataLoad {bs : List Byte} (h : bs.length ≤ 256) (s : State) :
    ∃ u, runEvents (dataLoad bs) s = .next u ∧ u.dataLen.toNat = bs.length := by
  have hwords : ∀ k, 4 * k < bs.length → StorableWord (dataBase + 4 * k) := fun k hk => by
    simp only [StorableWord, dataBase]
    omega
  rw [dataLoad, runEvents_append, runEvents_storeBytes dataBase bs s hwords]
  refine ⟨_, runEvents_sw (r := .dataLen) nofun _ [] _, ?_⟩
  rw [regStore, BitVec.toNat_setWidth, BitVec.toNat_ofNat]
  omega

/-- The stores of a write request set BYTE_COUNT and leave DATA_LEN. -/
theorem runEvents_buildWmrProgram (a bc : Byte) (n c : Half) (s : State) :
    ∃ u, runEvents (buildWmrProgram a n c bc) s = exec .buildWmr u ∧ u.byteCount = bc ∧ u.dataLen = s.dataLen := by
  have hbc : (bc.setWidth 32).setWidth 8 = bc := BitVec.setWidth_setWidth_of_le bc (by decide)
  exact ⟨_, (runEvents_sw (r := .slave) nofun _ _ s).trans <| (runEvents_sw (r := .startReg) nofun _ _ _).trans <|
    (runEvents_sw (r := .count) nofun _ _ _).trans <| (runEvents_sw (r := .byteCount) nofun _ _ _).trans <|
    runEvents_append_cmd [] .buildWmr _, hbc, rfl⟩

/-! ### The statements -/

/-- Settles O48, by induction on the number of steps: a safe state's next event is defined, so the step completes
(`onEvent_completes`), and it keeps the invariant (`Inv.step`) and the rest of the events. -/
theorem safeRunsNeverStop : Obligations.SafeRunsNeverStop := by
  intro n
  induction n with
  | zero => exact fun s h => ⟨s, rfl, h⟩
  | succ n ih =>
    intro s h
    obtain ⟨u, hu, hsafe⟩ := h.step
    rw [core_run_succ hu]
    exact ih u hsafe

/-- Settles O26: the branches of PARSE in their order, with the lengths and the CRC as its results show them. -/
theorem parseStatusPriority : Obligations.ParseStatusPriority := by
  refine ⟨fun s t ht => ?_, fun i s t hparse hnop ht => (exec_code_eq_ok_or_paramError hparse hnop ht).imp_right And.right⟩
  rcases execParse_cases s with ⟨hv, heq⟩ | ⟨hv, hn, heq⟩ | ⟨hv, hn, heq⟩ <;> cases heq.symm.trans ht
  · rw [if_pos hv, parseAbort_code]
  · have hover : 1024 < s.rxLen.toNat := hn
    rw [if_neg (by simp [hv]), if_pos hover, parseAbort_code]
  · have hfits : ¬1024 < s.rxLen.toNat := Nat.not_lt.mpr hn
    rw [if_neg (by simp [hv]), if_neg hfits, toNat_parseCandidate_respOff, toNat_parseCandidate_respLen]
    obtain h4 | h4 := Nat.lt_or_ge (candidateLen s) 4
    · rw [parseCandidate_of_unchecked h4, State.report_code, if_pos h4]
    · rw [if_neg (by omega), if_neg (by omega)]
      exact parseCandidate_code_of_checked h4

/-- Settles O33: the arms of the commands, and the code of PARSE as O26 gives it. -/
theorem codesEachCommandRaises : Obligations.CodesEachCommandRaises := by
  refine ⟨fun s t ht => ?_, fun s t b ht => ?_, fun s t ht => ?_, fun s t ht => ?_, fun s t w hw ht => ?_⟩
  · cases ht
    rfl
  · rcases ht with ht | ht | ht | ht <;> cases ht <;> rfl
  · rcases exec_code_eq_ok_or_paramError (i := .buildWmr) nofun nofun ht with hc | ⟨-, hc⟩ <;> simp [hc]
  · rw [parseStatusPriority.1 s t ht]
    split_ifs <;> simp
  · cases (runCommand_of_reserved (opField_not_mem_commandOps.mpr hw) s).symm.trans ht
    rfl

/-- Settles O34: no arm stops, and no arm but NOP's depends on the code. -/
theorem commandsNeverStop : Obligations.CommandsNeverStop :=
  ⟨exec_completes, runCommand_completes, fun _ s c hi => exec_report hi s c⟩

/-- Settles O51: the actions are those of at most MAX_ATTEMPTS attempts, which are counted. -/
theorem exchangeAttemptsBounded : Obligations.ExchangeAttemptsBounded := by
  intro p q link s r hmax h
  obtain ⟨t, -, rfl | ⟨k, last, hend⟩⟩ := exchange_cases h
  · exact ⟨Nat.zero_le _, hmax⟩
  · have hk := hend.le_limit
    have hcount := List.countP_le_length (p := fun j => decide (link (j + 1) ≠ .reopenFailed)) (l := List.range (k + 1))
    rw [List.length_range] at hcount
    rw [hend.actions_eq, reopens_actionsOfAttempts, transmissions_actionsOfAttempts]
    omega

/-- Settles O52: every attempt starts from the frame the build left, and none changes it. -/
theorem exchangeRetransmitsSameFrame : Obligations.ExchangeRetransmitsSameFrame := by
  intro p q link s r f h hf
  obtain ⟨t, -, rfl | ⟨k, last, hend⟩⟩ := exchange_cases h
  · cases hf
  · obtain ⟨-, hframe⟩ := hend.retainsFrame
    rw [hend.actions_eq] at hf
    rw [hframe]
    exact eq_of_transmit_mem_actionsOfAttempts p link t.frame hf

/-- Settles O53: the last attempt fails as it would in `t` (`attempt_result_congr`), retryably, so it is number MAX_ATTEMPTS. -/
theorem exhaustedExchange : Obligations.ExhaustedExchange := by
  intro p q link s t hmax ht hok hfails
  obtain ⟨k, last, u, hu, hend⟩ := exchange_of_built (p := p) (link := link) ht hok
  obtain ⟨v, ⟨hframe, -⟩, hv⟩ := hend.last_attempt
  have hk := hend.le_limit
  obtain ⟨r, hr, hretry⟩ := hfails (k + 1) (by omega) (by omega)
  have hresult := attempt_result_congr hr hframe hv
  have hlast : p.maxAttempts = k + 1 := by
    have hlimit := hend.exhausted (by rw [hresult, hretry])
    omega
  have hfailed : last.result ≠ .status .ok := fun e => by
    rw [← hresult, e] at hretry
    cases hretry
  have hactions := hend.actions_eq
  rw [hlast]
  refine ⟨u, r, hu, hr, by rw [hend.result_eq, if_neg hfailed, hresult], hactions, ?_, fun hopen => ?_⟩
  · rw [hactions, reopens_actionsOfAttempts]
  · rw [hactions, transmissions_actionsOfAttempts]
    refine (List.countP_eq_length.mpr fun j hj => ?_).trans List.length_range
    have hj' := List.mem_range.mp hj
    exact decide_eq_true (hopen (j + 1) (by omega) (by omega))

/-- Settles O54: the loads leave DATA_LEN and BYTE_COUNT unequal, so BUILD_WMR fails. -/
theorem callerErrorEndsExchange : Obligations.CallerErrorEndsExchange := by
  intro p link s a bc n c data hlen hne
  obtain ⟨u, hu, hdata⟩ := runEvents_dataLoad hlen s
  obtain ⟨v, hv, hbc, hdl⟩ := runEvents_buildWmrProgram a bc n c u
  have hmismatch : dataLenMatches v = false :=
    Bool.eq_false_iff.mpr fun hm => hne (by rw [← hdata, ← hdl, ← hbc, dataLenMatches_iff.mp hm])
  have hrun : runEvents (Request.writeMultiple a n c bc data).program s = .next (buildFail v) := by
    rw [Request.program, runEvents_append, hu]
    exact hv.trans (exec_buildWmr_of_not_matches hmismatch)
  exact ⟨_, exchange_of_not_built hrun nofun, rfl, rfl⟩

/-- Settles O55: a payload comes from a read whose last PARSE ended with OK, and O28 says what that has established. -/
theorem exchangePayloadIsValidated : Obligations.ExchangePayloadIsValidated := by
  intro p q link s r bs h hbs
  obtain ⟨t, ht, rfl | ⟨k, last, hend⟩⟩ := exchange_cases h
  · cases hbs
  · obtain ⟨hok, rfl, a, n, c, hq⟩ := hend.payload hbs
    obtain ⟨v, -, hv⟩ := hend.last_attempt
    obtain ⟨hcode, u, hu⟩ := attempt_parse_of_ok hv hok
    rw [← hend.state_eq] at hcode hu
    have hread : u.frameFc = 0x03 ∨ u.frameFc = 0x04 := by
      have ⟨⟨_, _, hfc⟩, _⟩ := hend.retainsFrame
      have ⟨⟨_, _, hfcu⟩, _⟩ := exec_parse_retainsFrame hu
      rw [← hfcu, hfc]
      refine frameFc_of_read_program (s := s) (a := a) (n := n) (c := c) ?_
      rcases hq with rfl | rfl
      · exact .inl ht
      · exact .inr ht
    obtain ⟨hestablished, -⟩ := parseOkEstablishes u r.state hu
    obtain ⟨-, -, hcrc, hlengths⟩ := hestablished hcode
    obtain ⟨hlen, -⟩ := hlengths hread
    refine ⟨rfl, hcode, hcrc, ?_⟩
    rw [hlen, payload, State.length_bytes]

end Sys2Proof.Machine

/-! SUPPORT. The family of 70_reset_and_hazards.md: the state that reset leaves, as the host bus and PARSE see it. -/

namespace Sys2Proof.Machine

/-! ### The state after reset (10_state.md R45) -/

theorem onEvent_reset (s : State) : onEvent .reset s = .next s.platformReset := rfl

/-- The code NONE is number 0 and not retryable, and the three flags are clear. -/
theorem statusWord_platformReset (s : State) : statusWord s.platformReset = 0 := by
  refine BitVec.eq_of_toNat_eq ?_
  rw [toNat_statusWord, State.platformReset_code, State.platformReset_nulSkipped, State.platformReset_echoShort,
    State.platformReset_frameValid]
  rfl

theorem busRead_status_platformReset (s : State) : busRead s.platformReset 0x004 = 0 :=
  (busRead_reg s.platformReset .status).trans (statusWord_platformReset s)

/-- Reset retains no frame. -/
theorem exec_parse_platformReset (s : State) :
    exec .parse s.platformReset = .next (parseAbort .seqError s.platformReset) :=
  exec_parse_of_no_frame (State.platformReset_frameValid s)

/-! ### The statement -/

/-- Settles O45: the registers are the fields of `platformReset`; STATUS reads as a word of cleared fields, and PARSE aborts for
want of a frame. -/
theorem resetLeavesSpecValues : Obligations.ResetLeavesSpecValues := by
  intro s
  have hparse : ∃ u, exec .parse s.platformReset = .next u ∧ u.code = .seqError :=
    ⟨_, exec_parse_platformReset s, parseAbort_code _ _⟩
  refine ⟨s.platformReset, onEvent_reset s, ?_⟩
  simp [Config.crcInit, busRead_status_platformReset, hparse]

end Sys2Proof.Machine

/-! SUPPORT. The family of the command word and of one step: the encoder as the decoder's inverse on canonical words, and the step
that runs a placed command. -/

namespace Sys2Proof

/-! ### The encoder on canonical words (30_encoding.md R89, R90) -/

/-- A word is its three fields OP, ARG and the ignored bits [31:16]. -/
theorem word_eq_of_fields {v w : Word} (hop : opField v = opField w) (harg : argField v = argField w)
    (hupper : v.extractLsb' 16 16 = w.extractLsb' 16 16) : v = w := by
  have hv := v.isLt
  have hw := w.isLt
  have hop := congrArg BitVec.toNat hop
  have harg := congrArg BitVec.toNat harg
  have hupper := congrArg BitVec.toNat hupper
  rw [toNat_opField, toNat_opField] at hop
  rw [toNat_argField, toNat_argField] at harg
  rw [BitVec.extractLsb'_toNat, BitVec.extractLsb'_toNat, Nat.shiftRight_eq_div_pow, Nat.shiftRight_eq_div_pow] at hupper
  exact BitVec.eq_of_toNat_eq (by omega)

/-- A canonical word carries its command's ARG byte: zero for every command but CRC_BYTE. -/
theorem argField_of_canonical {w : Word} {i : Instr} (hop : opField w = i.opcode)
    (hoperand : ∀ b, i = .crcByte b → b = argField w) (hcanon : opField w = 0x81 ∨ argField w = 0) :
    argField w = i.arg := by
  cases i with
  | crcByte b => exact (hoperand b rfl).symm
  | _ =>
    rw [hop] at hcanon
    exact hcanon.resolve_left (by decide)

theorem encode_of_decode {w : Word} {i : Instr} (hcanon : canonicalWord w = true) (hdec : decode w = .ok i) :
    encode i = w := by
  obtain ⟨hop, hoperand⟩ := decode_eq_ok.mp hdec
  obtain ⟨hupper, hunused⟩ : w.extractLsb' 16 16 = 0 ∧ (opField w = 0x81 ∨ argField w = 0) := by
    simpa only [canonicalWord, Bool.and_eq_true, Bool.or_eq_true, beq_iff_eq] using hcanon
  obtain ⟨hop', harg', hupper'⟩ := fields_of_word i.arg i.opcode
  exact word_eq_of_fields (hop'.trans hop.symm) (harg'.trans (argField_of_canonical hop hoperand hunused).symm)
    (hupper'.trans hupper.symm)

/-- The command word keeps all 32 bits of a word (log entry 7). -/
theorem commandWord_toNat (w : Word) : commandWord 32 w.toNat = w := by
  rw [commandWord, Nat.mod_eq_of_lt w.isLt, BitVec.ofNat_toNat, BitVec.setWidth_eq]

namespace Machine

/-! ### The statements -/

/-- Settles O1: the round trip from a command (`decode_encode`) and from a canonical word (`encode_of_decode`). -/
theorem decodeInvertsEncode : Obligations.DecodeInvertsEncode :=
  ⟨decode_encode, fun _ _ => encode_of_decode⟩

/-- Settles O11: the CRC is injective in its start value and in each byte (`crc16_ne_of_byte_ne`). -/
theorem oneChangedByteChangesCrc : Obligations.OneChangedByteChangesCrc :=
  fun c p q _ _ h => crc16_ne_of_byte_ne h c p q

/-- Settles O3: the decoder computes on twelve fixed words. -/
theorem tableWordsDecode : Obligations.TableWordsDecode := by
  unfold Obligations.TableWordsDecode
  decide

/-- Settles O4: the step runs the write to CMD (`step_write_cmd`), and the write runs its word's command. -/
theorem stepRunsDecodedCommand : Obligations.StepRunsDecodedCommand :=
  fun s _ _ rest hpending hdec => (step_write_cmd hpending).trans (runCommand_of_decode hdec (s.setPending rest))

/-- Settles O6: the two cases of a step, an event to come (`step_event`) and none (`step_idle`). -/
theorem stepTakesEventsInOrder : Obligations.StepTakesEventsInOrder :=
  ⟨fun _ _ _ => step_event, fun _ => step_idle⟩

/-- Settles O7: the placed event is a write of the whole word to CMD, and taking it leaves the events that were to come. -/
theorem placedWordRunsNext : Obligations.PlacedWordRunsNext := by
  intro s w
  have hpending : (s.withFetchWord 32 w.toNat).pending = .write 0x000 4 w :: s.pending := by
    rw [State.withFetchWord, commandWord_toNat]
    rfl
  exact step_write_cmd hpending

end Machine

end Sys2Proof
